-- ==== Sys2Proof/Word.lean ====
section
/-! DEFINITION. The widths of the SCAN-CLASSIFIER block's registers and words, and the two small sets of names
(the button channels and the colour channels) that its micro-ops select. -/

namespace Sys2Proof

/-- A micro-op word (30_encoding.md R80): bits 15:12 the opcode, bits 11:0 the operand fields. -/
abbrev Word := BitVec 16

/-- A time or duration register, CLK_W = 32 bits, in ms, wrapping (00_scope.md R6, R9). -/
abbrev Time := BitVec 32

/-- The elapsed time of one ADV, a 12-bit field, 0 to DT_MAX = 4095 ms (30_encoding.md R82). -/
abbrev Dt := BitVec 12

/-- A score counter, SCORE_W = 8 bits, unsigned (10_state.md R30). -/
abbrev Score := BitVec 8

/-- The two button channels, and the two scores they change (00_scope.md R6 N_BTN = 2; 10_state.md R30). -/
inductive Button where
  | b0
  | b1
deriving DecidableEq, Repr

/-- The colour channels in the source's fixed order R, G, B (00_scope.md R6; 20_memory.md R60). -/
inductive Chan where
  | r
  | g
  | b
deriving DecidableEq, Repr

end Sys2Proof
end

