-- ==== Sys2Proof/Syntax.lean ====
section
/-! DEFINITION. The micro-ops: one constructor for each row of spec/opcode_table.json (30_encoding.md R87). -/

namespace Sys2Proof

/-- A micro-op with its operands (30_encoding.md R81 to R86). The operand types are the widths of the encoding's fields;
SHIFT's channel keeps its two-bit code, whose value 3 is reserved (R83, R88) and is refused by `wellFormed`. -/
inductive Instr where
  | adv (dt : Dt)
  | smp (b : Button)
  | eval
  | guard
  | apply
  | rwait
  | inc (b : Button)
  | dec (b : Button)
  | rstall
  | shift (ch : BitVec 2) (p : BitVec 4) (col : BitVec 6)
  | blank
  | latch
  | setaddr (p : BitVec 4)
  | unblank
deriving DecidableEq, Repr

end Sys2Proof
end

