-- ==== Sys2Proof/WellFormed.lean ====
section
/-! DEFINITION. Which terms of `Instr` are micro-ops of the block. -/

namespace Sys2Proof

/-- 30_encoding.md R87, R88: the table's one extra condition is `w[11:10] != 3` for SHIFT; every other operand is in range by
its width. -/
def wellFormed : Instr → Bool
  | .adv _ => true
  | .smp _ => true
  | .eval => true
  | .guard => true
  | .apply => true
  | .rwait => true
  | .inc _ => true
  | .dec _ => true
  | .rstall => true
  | .shift ch _ _ => ch != 3#2
  | .blank => true
  | .latch => true
  | .setaddr _ => true
  | .unblank => true

end Sys2Proof
end

