-- ==== Sys2Proof/Decode.lean ====
section
/-! DEFINITION. The total decoder of 30_encoding.md R89, the encoder written from the formats and the opcode map of R81 and R87,
and the opcode table's mask and match of each row. -/

namespace Sys2Proof

/-- Why a word spells no micro-op: the three cases of 30_encoding.md R88, in its order. -/
inductive Invalid where
  | reservedOpcode
  | reservedChannel
  | mustBeZero
deriving DecidableEq, Repr

/-- The decoder's answer (30_encoding.md R89): one micro-op, or Invalid. -/
inductive Decoded where
  | ok (i : Instr)
  | invalid (why : Invalid)
deriving DecidableEq, Repr

/-- `w[15:12]`, the opcode (30_encoding.md R80). -/
def opField (w : Word) : BitVec 4 := w.extractLsb' 12 4

/-- `w[11:0]`, format T's dt and format N's must-be-zero field (30_encoding.md R81). -/
def dtField (w : Word) : BitVec 12 := w.extractLsb' 0 12

/-- `w[11:1]`, format B's must-be-zero field (30_encoding.md R81). -/
def buttonZeros (w : Word) : BitVec 11 := w.extractLsb' 1 11

/-- `w[0]`, format B's button (30_encoding.md R84). -/
def buttonField (w : Word) : BitVec 1 := w.extractLsb' 0 1

/-- `w[11:10]`, format S's channel code, and format A's upper must-be-zero field (30_encoding.md R81, R83). -/
def chField (w : Word) : BitVec 2 := w.extractLsb' 10 2

/-- `w[9:6]`, the physical row of formats S and A (30_encoding.md R83, R85). -/
def pField (w : Word) : BitVec 4 := w.extractLsb' 6 4

/-- `w[5:0]`, format S's column, and format A's lower must-be-zero field (30_encoding.md R81, R83). -/
def colField (w : Word) : BitVec 6 := w.extractLsb' 0 6

/-- Format B's bit selects button channel 0 or 1 (30_encoding.md R84). -/
def buttonOf (b : BitVec 1) : Button := if b = 0#1 then .b0 else .b1

/-- The bit that format B encodes a button with (30_encoding.md R84). -/
def buttonBit : Button → BitVec 1
  | .b0 => 0#1
  | .b1 => 1#1

/-- A micro-op that has a must-be-zero field: `i` when the field is 0, Invalid otherwise (30_encoding.md R88 case 3). -/
def whenZero (zeros : Bool) (i : Instr) : Decoded := if zeros then .ok i else .invalid .mustBeZero

/-- 30_encoding.md R89, row by row. -/
def decode (w : Word) : Decoded :=
  match (opField w).toNat with
  | 0x1 => .ok (.adv (dtField w))
  | 0x2 => whenZero (buttonZeros w == 0#11) (.smp (buttonOf (buttonField w)))
  | 0x3 => whenZero (dtField w == 0#12) .eval
  | 0x4 => whenZero (dtField w == 0#12) .guard
  | 0x5 => whenZero (dtField w == 0#12) .apply
  | 0x6 => whenZero (dtField w == 0#12) .rwait
  | 0x7 => whenZero (buttonZeros w == 0#11) (.inc (buttonOf (buttonField w)))
  | 0x8 => whenZero (buttonZeros w == 0#11) (.dec (buttonOf (buttonField w)))
  | 0x9 => whenZero (dtField w == 0#12) .rstall
  | 0xA => if chField w = 3#2 then .invalid .reservedChannel else .ok (.shift (chField w) (pField w) (colField w))
  | 0xB => whenZero (dtField w == 0#12) .blank
  | 0xC => whenZero (dtField w == 0#12) .latch
  | 0xD => whenZero (chField w == 0#2 && colField w == 0#6) (.setaddr (pField w))
  | 0xE => whenZero (dtField w == 0#12) .unblank
  | _ => .invalid .reservedOpcode

/-- Format T (30_encoding.md R81). -/
def formatT (op : BitVec 4) (dt : Dt) : Word := op ++ dt

/-- Format B (30_encoding.md R81). -/
def formatB (op : BitVec 4) (b : Button) : Word := op ++ 0#11 ++ buttonBit b

/-- Format N (30_encoding.md R81). -/
def formatN (op : BitVec 4) : Word := op ++ 0#12

/-- Format S (30_encoding.md R81). -/
def formatS (op : BitVec 4) (ch : BitVec 2) (p : BitVec 4) (col : BitVec 6) : Word := op ++ ch ++ p ++ col

/-- Format A (30_encoding.md R81). -/
def formatA (op : BitVec 4) (p : BitVec 4) : Word := op ++ 0#2 ++ p ++ 0#6

/-- The word of a micro-op: the opcode of 30_encoding.md R87 in the format of R81. -/
def encode : Instr → Word
  | .adv dt => formatT 0x1#4 dt
  | .smp b => formatB 0x2#4 b
  | .eval => formatN 0x3#4
  | .guard => formatN 0x4#4
  | .apply => formatN 0x5#4
  | .rwait => formatN 0x6#4
  | .inc b => formatB 0x7#4 b
  | .dec b => formatB 0x8#4 b
  | .rstall => formatN 0x9#4
  | .shift ch p col => formatS 0xA#4 ch p col
  | .blank => formatN 0xB#4
  | .latch => formatN 0xC#4
  | .setaddr p => formatA 0xD#4 p
  | .unblank => formatN 0xE#4

/-- The opcode table's mask for a micro-op's row (30_encoding.md R87). -/
def rowMask : Instr → Word
  | .adv _ => 0xF000#16
  | .smp _ => 0xFFFE#16
  | .eval => 0xFFFF#16
  | .guard => 0xFFFF#16
  | .apply => 0xFFFF#16
  | .rwait => 0xFFFF#16
  | .inc _ => 0xFFFE#16
  | .dec _ => 0xFFFE#16
  | .rstall => 0xFFFF#16
  | .shift _ _ _ => 0xF000#16
  | .blank => 0xFFFF#16
  | .latch => 0xFFFF#16
  | .setaddr _ => 0xFC3F#16
  | .unblank => 0xFFFF#16

/-- The opcode table's match value for a micro-op's row (30_encoding.md R87). -/
def rowMatch : Instr → Word
  | .adv _ => 0x1000#16
  | .smp _ => 0x2000#16
  | .eval => 0x3000#16
  | .guard => 0x4000#16
  | .apply => 0x5000#16
  | .rwait => 0x6000#16
  | .inc _ => 0x7000#16
  | .dec _ => 0x8000#16
  | .rstall => 0x9000#16
  | .shift _ _ _ => 0xA000#16
  | .blank => 0xB000#16
  | .latch => 0xC000#16
  | .setaddr _ => 0xD000#16
  | .unblank => 0xE000#16

/-- The decoder on an instruction's bits as spec/opcode_table.json numbers them. A micro-op is ONE 16-bit word (30_encoding.md
R80), so bit k of the table is bit k of the word; anything longer than a word is no micro-op. -/
def decodeTableWord (nbits w : Nat) : Option Instr :=
  if 16 < nbits ∨ 2 ^ 16 ≤ w then none
  else match decode (BitVec.ofNat 16 w) with
    | .ok i => some i
    | .invalid _ => none

end Sys2Proof
end

