-- ==== Sys2Proof/Config.lean ====
section
/-! DEFINITION. The implementation parameters of 00_scope.md R6: the fixed ones as constants, the configuration fields
as a record, and the values the spec leaves to the environment or leaves OPEN as constants without a body. -/

namespace Sys2Proof

/-- INACTIVE_LINE_POLICY (43_scanout.md R177): what the two other channels' data lines carry during a SHIFT. -/
inductive InactivePolicy where
  | zero
  | hold
deriving DecidableEq, Repr

/-- The configuration fields of 00_scope.md R6. They are natural numbers, so that a configuration that breaks R7 can be
written down and refused. No micro-op and no host access writes one (10_state.md R36). -/
structure Config where
  tDebounce : Nat
  tDec : Nat
  tReset : Nat
  scoreMax : Nat
  inactive : InactivePolicy
deriving DecidableEq, Repr

/-- What the host may ask of the block (40_sequencer.md R109), with FBWrite's indices as the host gives them (20_memory.md R63). -/
inductive Machine.HostReq where
  | fbWrite (ch r c : Nat) (v : Bool)
  | renderDone
  | scoreRead (b : Button)
deriving DecidableEq, Repr

namespace Config

/-- The source's values (00_scope.md R6): 75, 1000 and 3000 ms, score ceiling 99, policy ZERO. -/
def default : Config :=
  { tDebounce := 75, tDec := 1000, tReset := 3000, scoreMax := 99, inactive := .zero }

/-- LROWS (00_scope.md R6). -/
def lrows : Nat := 32

/-- PROWS (00_scope.md R6). -/
def prows : Nat := 16

/-- COLS (00_scope.md R6). -/
def cols : Nat := 64

/-- NCH (00_scope.md R6). -/
def nch : Nat := 3

/-- ADDR_W (00_scope.md R6). -/
def addrW : Nat := 4

/-- CLK_W (00_scope.md R6). -/
def clkW : Nat := 32

/-- SCORE_W (00_scope.md R6). -/
def scoreW : Nat := 8

/-- DT_MAX (00_scope.md R6): the largest time advance of one ADV. -/
def dtMax : Nat := 4095

/-- A FREE VALUE: the k-th time advance the environment draws beyond the draws written down in the state
(40_sequencer.md R107: "No law constrains them"). -/
opaque freeDt : Nat → Dt

/-- A FREE VALUE: the k-th button level the environment draws beyond the draws written down in the state
(41_classifier.md R122, 40_sequencer.md R107). -/
opaque freeLevel : Nat → Bool

/-- A FREE VALUE: what the host does the k-th time it decides freely, with no request written down: one request, or nothing this
time (00_scope.md R8, 40_sequencer.md R109). Nothing constrains it: RENDER_DONE is the host's duty and not the block's (R104). -/
opaque freeHost : Nat → Option Machine.HostReq

/-- The OPEN parameter COL_MAP (43_scanout.md R187): the physical column that a shift-register position drives. Only the
panel observer uses it. -/
opaque colMap : Fin 64 → Fin 64

end Config

end Sys2Proof
end

