-- ==== Sys2Proof/Machine/State.lean ====
section
/-! DEFINITION. The state of the SCAN-CLASSIFIER block (10_state.md R20 to R39, 20_memory.md R60), with the pending moves of
the agents around it (00_scope.md R8, 40_sequencer.md R106, R107, R109), the reasons a step can stop, and the state after reset
(70_reset_and_hazards.md R220). -/

namespace Sys2Proof.Machine

/-- The two reasons for which the block halts (60_exceptions.md R201). The meanings of SETADDR and LATCH record one of them in
`State.fault`, and the machine's next step answers it. SAFE: the spec's own stop; the spec says such a state is never final. -/
inductive Fault where
  /-- Code 1. Raised by SETADDR while OE_n = 0 (43_scanout.md R175). Safe. -/
  | hzAddrWhileEnabled
  /-- Code 2. Raised by LATCH while OE_n = 0 (43_scanout.md R174). Safe. -/
  | hzLatchWhileEnabled
deriving DecidableEq, Repr

/-- The reasons for which a request gets no meaning (60_exceptions.md R202). A refused request records one in `State.refusal`,
and the machine's next step answers it. SAFE: the spec's own refusals. -/
inductive Refusal where
  /-- An instruction whose arm in `exec` gives no meaning yet; only such an arm answers it. Safe. -/
  | notModelled (mnemonic : String)
  /-- A directly issued word that decodes to Invalid (30_encoding.md R88). Safe. -/
  | illegalEncoding
  /-- A host write with an index out of range (20_memory.md R63). Safe. -/
  | hostIndexRange
  /-- A configuration that breaks 00_scope.md R7. Safe. -/
  | configInvalid
deriving DecidableEq, Repr

/-- What raising a fault records: the reason and the micro-op word (60_exceptions.md R201). -/
structure FaultRecord where
  reason : Fault
  word : Word
deriving DecidableEq, Repr

/-- One value for each button channel. -/
structure PerButton (α : Type) where
  b0 : α
  b1 : α
deriving DecidableEq, Repr

/-- A button channel record BC[b] (10_state.md R21 to R27). -/
structure Channel where
  prevLevel : Bool
  curLevel : Bool
  holdClk : Time
  pressStartedAt : Time
  lastPressDur : Time
  lastReleaseDur : Time
  pending : Bool
deriving DecidableEq, Repr

/-- The output register OUT, all 13 of its bits by name (10_state.md R31); `Bus.word` in Machine/Operands.lean is its word. -/
structure Bus where
  clk : Bool
  lat : Bool
  oeN : Bool
  r1 : Bool
  r2 : Bool
  g1 : Bool
  g2 : Bool
  b1 : Bool
  b2 : Bool
  a : BitVec 4
deriving DecidableEq, Repr

/-- The frame buffer's cells (20_memory.md R60): one cell for each bit that is 1, under its index (`fbIndex` in
Machine/Ops.lean), in rising order. An unlisted bit is 0, its reset value (20_memory.md R61). -/
abbrev Memory := List Host.Cell

/-- Who moves in a step: an agent of 00_scope.md R8, the test harness of 40_sequencer.md R106 with the word it issues, or the
RESET input of 60_exceptions.md R210. -/
inductive Turn where
  | sequencer
  | host
  | harness (w : Word)
  | reset
deriving DecidableEq, Repr

/-- The environment's draws still to come (40_sequencer.md R107): those written down, oldest first, and how many draws beyond
them have been taken from the free values of Config.lean. -/
structure Env where
  dts : List Dt
  levels : PerButton (List Bool)
  drawn : Nat
deriving DecidableEq, Repr

/-- The whole state. `cfg` is fixed (10_state.md R36). `btn` to `fb` are the block's state (10_state.md R20 to R33, 20_memory.md
R60). `traceRev` is the output trace with its newest word first (43_scanout.md R171). `renderDone` and `reads` are the host port's
RENDER_DONE signal and the answers its score reads gave (40_sequencer.md R104, R109). `env`, `host` and `turns` are the moves
of the agents around the block that are still to come, oldest first, and `hostDrawn` is how often the host has decided freely
(`Config.freeHost`). -/
structure State where
  cfg : Config
  btn : PerButton Channel
  nowMs : Time
  ev : BitVec 5
  score : PerButton Score
  out : Bus
  seqPc : Fin 3336
  fault : Option FaultRecord
  refusal : Option Refusal
  fb : Memory
  traceRev : List Bus
  renderDone : Bool
  reads : List (Button × Score)
  env : Env
  host : List HostReq
  hostDrawn : Nat
  turns : List Turn
deriving DecidableEq, Repr

/-- A channel record after reset (70_reset_and_hazards.md R220). -/
def Channel.reset : Channel :=
  { prevLevel := false, curLevel := false, holdClk := 0, pressStartedAt := 0, lastPressDur := 0, lastReleaseDur := 0,
    pending := false }

/-- OUT after reset, the word 0x0004 (70_reset_and_hazards.md R220). -/
def Bus.reset : Bus :=
  { clk := false, lat := false, oeN := true, r1 := false, r2 := false, g1 := false, g2 := false, b1 := false, b2 := false,
    a := 0 }

/-- The machine right after reset (70_reset_and_hazards.md R220, 10_state.md R39), under the default configuration, with no
move of another agent written down. -/
def State.reset : State :=
  { cfg := Config.default
    btn := { b0 := Channel.reset, b1 := Channel.reset }
    nowMs := 0
    ev := 0
    score := { b0 := 0, b1 := 0 }
    out := Bus.reset
    seqPc := 0
    fault := none
    refusal := none
    fb := []
    traceRev := []
    renderDone := false
    reads := []
    env := { dts := [], levels := { b0 := [], b1 := [] }, drawn := 0 }
    host := []
    hostDrawn := 0
    turns := [] }

end Sys2Proof.Machine
end

