-- ==== Sys2Proof/Machine/Operands.lean ====
section
/-! DEFINITION. The operand forms of the micro-ops (30_encoding.md R82 to R86), the registers they select, and the bus word of
OUT (30_encoding.md R90). -/

namespace Sys2Proof.Machine

/-- The value of button channel `b`. -/
def PerButton.get {α : Type} (v : PerButton α) : Button → α
  | .b0 => v.b0
  | .b1 => v.b1

/-- Replaces the value of button channel `b` and keeps the other's. -/
def PerButton.set {α : Type} (v : PerButton α) : Button → α → PerButton α
  | .b0, x => { v with b0 := x }
  | .b1, x => { v with b1 := x }

/-- Applies `f` to both channels. -/
def PerButton.map {α β : Type} (f : α → β) (v : PerButton α) : PerButton β := { b0 := f v.b0, b1 := f v.b1 }

/-- Format T's operand: `dt = zext_CLK_W(w[11:0])` (30_encoding.md R82). -/
def dtOperand (dt : Dt) : Time := dt.zeroExtend 32

/-- Format S's channel code: 0 = R, 1 = G, 2 = B, and 3 is reserved (30_encoding.md R83). -/
def chanOf (ch : BitVec 2) : Option Chan :=
  match ch.toNat with
  | 0 => some .r
  | 1 => some .g
  | 2 => some .b
  | _ => none

/-- The code of a channel (20_memory.md R60). -/
def chanCode : Chan → Nat
  | .r => 0
  | .g => 1
  | .b => 2

/-- The upper half-panel's logical row of physical row `p` (43_scanout.md R172). -/
def upperRow (p : BitVec 4) : Nat := p.toNat

/-- The lower half-panel's logical row of physical row `p`, which no field encodes (30_encoding.md R83, 43_scanout.md R172). -/
def lowerRow (p : BitVec 4) : Nat := p.toNat + Config.prows

/-- The bus word `{A, B2, B1, G2, G1, R2, R1, OE_n, LAT, CLK}` (30_encoding.md R90). -/
def Bus.word (o : Bus) : BitVec 13 :=
  o.a ++ BitVec.ofBool o.b2 ++ BitVec.ofBool o.b1 ++ BitVec.ofBool o.g2 ++ BitVec.ofBool o.g1 ++ BitVec.ofBool o.r2 ++
    BitVec.ofBool o.r1 ++ BitVec.ofBool o.oeN ++ BitVec.ofBool o.lat ++ BitVec.ofBool o.clk

/-- The lines that a bus word stands for (30_encoding.md R90). -/
def Bus.ofWord (w : BitVec 13) : Bus :=
  { clk := w.getLsbD 0, lat := w.getLsbD 1, oeN := w.getLsbD 2, r1 := w.getLsbD 3, r2 := w.getLsbD 4, g1 := w.getLsbD 5,
    g2 := w.getLsbD 6, b1 := w.getLsbD 7, b2 := w.getLsbD 8, a := w.extractLsb' 9 4 }

/-- Drives a channel's two data lines (43_scanout.md R172, R178): `x1` is logical row p, `x2` is row p + 16. -/
def Bus.setData (o : Bus) (x1 x2 : Bool) : Chan → Bus
  | .r => { o with r1 := x1, r2 := x2 }
  | .g => { o with g1 := x1, g2 := x2 }
  | .b => { o with b1 := x1, b2 := x2 }

/-- Drives 0 on the four data lines of the two channels other than `c` (43_scanout.md R172, policy ZERO). -/
def Bus.clearOthers (o : Bus) : Chan → Bus
  | .r => { o with g1 := false, g2 := false, b1 := false, b2 := false }
  | .g => { o with r1 := false, r2 := false, b1 := false, b2 := false }
  | .b => { o with r1 := false, r2 := false, g1 := false, g2 := false }

/-- The lines in SHIFT's data phase (43_scanout.md R172, R177). -/
def Bus.shiftData (o : Bus) (pol : InactivePolicy) (c : Chan) (x1 x2 : Bool) : Bus :=
  match pol with
  | .zero => (o.setData x1 x2 c).clearOthers c
  | .hold => o.setData x1 x2 c

end Sys2Proof.Machine
end

