-- ==== Sys2Proof/Machine/Flags.lean ====
section
/-! DEFINITION. The conditions the micro-ops decide by: edges, holds, the event register's bits, EVAL's level, and the score
guard's range check (41_classifier.md R120 to R126, 42_score.md R151, 10_state.md R29). -/

namespace Sys2Proof.Machine

/-- A rising edge: the sample before was 0 and this one is 1 (41_classifier.md R120). -/
def risingEdge (c : Channel) : Bool := !c.prevLevel && c.curLevel

/-- A falling edge: the sample before was 1 and this one is 0 (41_classifier.md R120). -/
def fallingEdge (c : Channel) : Bool := c.prevLevel && !c.curLevel

/-- `held_over(b, T) := cur_level[b] == 1 and hold_clk[b] > T`, on the unsigned natural values (41_classifier.md R121). -/
def heldOver (c : Channel) (t : Nat) : Bool := c.curLevel && decide (t < c.holdClk.toNat)

/-- EVAL's level-2 condition for one button (41_classifier.md R123, R125). -/
def decrementDue (cfg : Config) (c : Channel) : Bool := heldOver c cfg.tDec && c.pending

/-- EVAL's level-3 condition for one button: `T_DEBOUNCE < d and d < T_DEC` (41_classifier.md R126). -/
def incrementDue (cfg : Config) (c : Channel) : Bool :=
  decide (cfg.tDebounce < c.lastPressDur.toNat) && decide (c.lastPressDur.toNat < cfg.tDec)

/-- The event register's word (10_state.md R29): bit 0 reset, bits 1 and 2 dec[0] and dec[1], bits 3 and 4 inc[0] and inc[1]. -/
def evWord (reset : Bool) (dec inc : PerButton Bool) : BitVec 5 :=
  BitVec.ofBool inc.b1 ++ BitVec.ofBool inc.b0 ++ BitVec.ofBool dec.b1 ++ BitVec.ofBool dec.b0 ++ BitVec.ofBool reset

/-- No button. -/
def noButton : PerButton Bool := { b0 := false, b1 := false }

/-- `ev.reset` (10_state.md R29). -/
def evReset (e : BitVec 5) : Bool := e.getLsbD 0

/-- `ev.dec[b]` (10_state.md R29). -/
def evDec (e : BitVec 5) : Button → Bool
  | .b0 => e.getLsbD 1
  | .b1 => e.getLsbD 2

/-- `ev.inc[b]` (10_state.md R29). -/
def evInc (e : BitVec 5) : Button → Bool
  | .b0 => e.getLsbD 3
  | .b1 => e.getLsbD 4

/-- The three levels of EVAL, in their priority order (41_classifier.md R123). -/
inductive EvalLevel where
  | reset
  | decrement
  | increment
deriving DecidableEq, Repr

/-- The one level an EVAL takes: a match on either button skips the lower levels for both (41_classifier.md R123). -/
def evalLevel (s : State) : EvalLevel :=
  if heldOver s.btn.b0 s.cfg.tReset || heldOver s.btn.b1 s.cfg.tReset then .reset
  else if decrementDue s.cfg s.btn.b0 || decrementDue s.cfg s.btn.b1 then .decrement
  else .increment

/-- The guard's condition: either score is above SCORE_MAX (42_score.md R151). -/
def scoreOutOfRange (cfg : Config) (v : PerButton Score) : Bool :=
  decide (cfg.scoreMax < v.b0.toNat) || decide (cfg.scoreMax < v.b1.toNat)

end Sys2Proof.Machine
end

