-- ==== Sys2Proof/Machine/Ops.lean ====
section
/-! DEFINITION. The named operations over the state: one update per field, the frame buffer, the output trace, the environment's
draws, raising a fault (the block's only "exception", 60_exceptions.md R201), refusing a request (R202), and reset, which is the
only way back from either (R206). -/

namespace Sys2Proof.Machine

/-! ### One update per field -/

/-- Writes the channel records. -/
def State.setBtn (s : State) (v : PerButton Channel) : State := { s with btn := v }
/-- Writes the time base. -/
def State.setNowMs (s : State) (v : Time) : State := { s with nowMs := v }
/-- Writes the event register. -/
def State.setEv (s : State) (v : BitVec 5) : State := { s with ev := v }
/-- Writes the score registers. -/
def State.setScore (s : State) (v : PerButton Score) : State := { s with score := v }
/-- Writes the output register. -/
def State.setOut (s : State) (v : Bus) : State := { s with out := v }
/-- Writes the sequencer position: `seq_pc <- target` (00_scope.md R10). -/
def State.setSeqPc (s : State) (v : Fin 3336) : State := { s with seqPc := v }
/-- Writes the fault record. -/
def State.setFault (s : State) (v : Option FaultRecord) : State := { s with fault := v }
/-- Writes the refusal mark with its reason. -/
def State.setRefusal (s : State) (v : Option Refusal) : State := { s with refusal := v }
/-- Writes the frame buffer. -/
def State.setFb (s : State) (v : Memory) : State := { s with fb := v }
/-- Writes the output trace, newest word first. -/
def State.setTraceRev (s : State) (v : List Bus) : State := { s with traceRev := v }
/-- Writes the RENDER_DONE signal. -/
def State.setRenderDone (s : State) (v : Bool) : State := { s with renderDone := v }
/-- Writes the answers of the host's score reads. -/
def State.setReads (s : State) (v : List (Button × Score)) : State := { s with reads := v }
/-- Writes the environment's draws still to come. -/
def State.setEnv (s : State) (v : Env) : State := { s with env := v }
/-- Writes the host's requests still to come. -/
def State.setHost (s : State) (v : List HostReq) : State := { s with host := v }
/-- Writes how often the host has decided freely. -/
def State.setHostDrawn (s : State) (v : Nat) : State := { s with hostDrawn := v }
/-- Writes the turns still to come. -/
def State.setTurns (s : State) (v : List Turn) : State := { s with turns := v }

/-! ### The frame buffer (20_memory.md R60 to R64) -/

/-- How many bits the frame buffer holds: 3 × 32 × 64 (20_memory.md R60). -/
def fbBits : Nat := Config.nch * Config.lrows * Config.cols

/-- The index of the bit `FB[ch][r][c]` in `State.fb`. -/
def fbIndex (ch r c : Nat) : Nat := (ch * Config.lrows + r) * Config.cols + c

/-- The canonical form: indices strictly rising and inside the frame buffer, and only bits that are 1 listed. -/
abbrev Memory.wf (m : Memory) : Prop :=
  m.Pairwise (fun x y => x.1 < y.1) ∧ ∀ c ∈ m, c.1 < fbBits ∧ c.2 = 1#8

/-- What an unlisted bit reads as: its reset value (20_memory.md R61). -/
def Memory.unlisted : BitVec 8 := 0#8

/-- Reads one cell. -/
def Memory.read : Memory → Nat → BitVec 8
  | [], _ => Memory.unlisted
  | (k, v) :: m, a => if k = a then v else Memory.read m a

/-- Puts a cell in front, unless it holds what an unlisted bit reads as. -/
def Memory.consCell (a : Nat) (v : BitVec 8) (m : Memory) : Memory :=
  if v = Memory.unlisted then m else (a, v) :: m

/-- Writes one cell and keeps the canonical form. -/
def Memory.write : Memory → Nat → BitVec 8 → Memory
  | [], a, v => Memory.consCell a v []
  | (k, w) :: m, a, v =>
    if a < k then Memory.consCell a v ((k, w) :: m)
    else if a = k then Memory.consCell a v m
    else (k, w) :: Memory.write m a v

/-- The cell of one bit. -/
def fbCell (v : Bool) : BitVec 8 := if v then 1#8 else 0#8

/-- `FB[ch][r][c]` (20_memory.md R62). It has no side effect. -/
def State.fbRead (s : State) (ch r c : Nat) : Bool := (Memory.read s.fb (fbIndex ch r c)).getLsbD 0

/-- `FB[ch][r][c] <- v`, the last line of FBWrite (20_memory.md R63). -/
def State.fbStore (s : State) (ch r c : Nat) (v : Bool) : State :=
  s.setFb (Memory.write s.fb (fbIndex ch r c) (fbCell v))

/-! ### The output trace (43_scanout.md R171) -/

/-- The output trace, oldest word first. -/
def State.trace (s : State) : List Bus := s.traceRev.reverse

/-- `emit_OUT`: appends the present value of OUT to the trace (43_scanout.md R171). -/
def State.emit (s : State) : State := s.setTraceRev (s.out :: s.traceRev)

/-- A write of OUT followed by `emit_OUT`. -/
def State.drive (s : State) (o : Bus) : State := (s.setOut o).emit

/-! ### The environment's draws (40_sequencer.md R107) -/

/-- Draws the tick's time advance: the next one written down, or else a free value. -/
def drawDt (s : State) : Dt × State :=
  match s.env.dts with
  | d :: ds => (d, s.setEnv { s.env with dts := ds })
  | [] => (Config.freeDt s.env.drawn, s.setEnv { s.env with drawn := s.env.drawn + 1 })

/-- `sample(b)`: draws button b's level, the next one written down, or else a free value (00_scope.md R10). -/
def drawLevel (b : Button) (s : State) : Bool × State :=
  match s.env.levels.get b with
  | l :: ls => (l, s.setEnv { s.env with levels := s.env.levels.set b ls })
  | [] => (Config.freeLevel s.env.drawn, s.setEnv { s.env with drawn := s.env.drawn + 1 })

/-! ### Stopping (60_exceptions.md R201, R202) -/

/-- `raise Fault(reason)` by micro-op `i`: the reason and the word are recorded and nothing else changes (60_exceptions.md R201). -/
def State.raise (s : State) (reason : Fault) (i : Instr) : State := s.setFault (some { reason := reason, word := encode i })

/-- `refuse(reason)`: the sticky mark is set and nothing else changes; a mark already set stays (60_exceptions.md R202, 10_state.md
R33). -/
def State.refuse (s : State) (why : Refusal) : State := s.setRefusal (some (s.refusal.getD why))

/-- The mark `refused` (10_state.md R33). -/
def State.refused (s : State) : Bool := s.refusal.isSome

/-- The code of a fault reason (60_exceptions.md R201). -/
def faultCode : Fault → Nat
  | .hzAddrWhileEnabled => 1
  | .hzLatchWhileEnabled => 2

/-- The relations of 00_scope.md R7. -/
def configValid (c : Config) : Bool :=
  decide (c.tDebounce < c.tDec) && decide (c.tDec < c.tReset) && decide (c.tReset < 2 ^ Config.clkW) &&
    decide (c.scoreMax < 2 ^ Config.scoreW - 1) && decide (Config.lrows = 2 * Config.prows) &&
    decide (Config.prows = 2 ^ Config.addrW)

/-- Why the machine has no further step, if it has none: it is faulted, or refused, or its configuration is invalid
(40_sequencer.md R100, 60_exceptions.md R201, R202). DESIGN CHOICE (log 26): the spec says 'no step' of a state with either mark
and nothing of one with both; this one answers the fault. -/
def stopped (s : State) : Option (Host.Outcome State Fault Refusal) :=
  match s.fault, s.refusal with
  | some f, _ => some (.fault f.reason)
  | none, some r => some (.refused r)
  | none, none => if configValid s.cfg then none else some (.refused .configInvalid)

/-- The machine is halted in a state that is never final. -/
def halted (s : State) : Bool := (stopped s).isSome

/-! ### Reset (70_reset_and_hazards.md R220) -/

/-- Asserting RESET: every element of R220 takes its reset value and the trace starts anew. The configuration stays, and an
invalid one is refused (60_exceptions.md R202). What belongs to the agents outside the block stays. -/
def State.applyReset (s : State) : State :=
  { State.reset with
    cfg := s.cfg
    refusal := if configValid s.cfg then none else some .configInvalid
    reads := s.reads
    env := s.env
    host := s.host
    hostDrawn := s.hostDrawn
    turns := s.turns }

/-- The state after reset under a given configuration (00_scope.md R6: "A configuration is fixed before reset"). -/
def State.boot (c : Config) : State := State.applyReset { State.reset with cfg := c }

end Sys2Proof.Machine
end

