-- ==== Sys2Proof/Machine/Classifier.lean ====
section
/-! DEFINITION. The classifier micro-ops, SMP and EVAL (41_classifier.md R122, R123). -/

namespace Sys2Proof.Machine

/-- The record of a channel after a sample of `level` at time `now` (41_classifier.md R122). -/
def Channel.sampled (now : Time) (level : Bool) (c : Channel) : Channel :=
  let c1 := { c with prevLevel := c.curLevel, curLevel := level }
  if risingEdge c1 then
    { c1 with lastReleaseDur := c1.holdClk, pressStartedAt := now, pending := true, holdClk := 0 }
  else if fallingEdge c1 then { c1 with lastPressDur := c1.holdClk, holdClk := 0 }
  else c1

/-- SMP b (41_classifier.md R122): the environment's level is drawn and button b's record takes it. -/
def execSmp (b : Button) (s : State) : Host.Outcome State Fault Refusal :=
  let d := drawLevel b s
  .next (d.2.setBtn (d.2.btn.set b ((d.2.btn.get b).sampled d.2.nowMs d.1)))

/-- A channel whose clock is restarted (41_classifier.md R124; 90_conflicts.md C4). -/
def Channel.restart (c : Channel) : Channel := { c with holdClk := 0 }

/-- A channel after level 2: `pending` is cleared where the decrement is issued (41_classifier.md R125). -/
def Channel.afterDecrement (cfg : Config) (c : Channel) : Channel :=
  if decrementDue cfg c then { c with pending := false } else c

/-- A channel after level 3: the measured duration is consumed, matched or not (41_classifier.md R126). -/
def Channel.consumed (c : Channel) : Channel := { c with lastPressDur := 0 }

/-- EVAL (41_classifier.md R123): exactly one level is taken, and the whole event register is written. -/
def execEval (s : State) : Host.Outcome State Fault Refusal :=
  match evalLevel s with
  | .reset => .next ((s.setEv (evWord true noButton noButton)).setBtn (s.btn.map Channel.restart))
  | .decrement =>
    .next ((s.setEv (evWord false (s.btn.map (decrementDue s.cfg)) noButton)).setBtn
      (s.btn.map (Channel.afterDecrement s.cfg)))
  | .increment =>
    .next ((s.setEv (evWord false noButton (s.btn.map (incrementDue s.cfg)))).setBtn (s.btn.map Channel.consumed))

end Sys2Proof.Machine
end

