-- ==== Sys2Proof/Machine/Scanout.lean ====
section
/-! DEFINITION. The scan-out micro-ops, SHIFT, BLANK, LATCH, SETADDR and UNBLANK (43_scanout.md R172 to R176). -/

namespace Sys2Proof.Machine

/-- OUT in the data phase of SHIFT c, p, col: the column's two bits on c's lines (43_scanout.md R172). -/
def shiftOut (s : State) (c : Chan) (p : BitVec 4) (col : BitVec 6) : Bus :=
  s.out.shiftData s.cfg.inactive c (s.fbRead (chanCode c) (upperRow p) col.toNat)
    (s.fbRead (chanCode c) (lowerRow p) col.toNat)

/-- Three words: the data, the clock's rising edge, the clock's return to idle (43_scanout.md R172). -/
def State.clockOut (s : State) (o : Bus) : State :=
  ((s.drive o).drive { o with clk := true }).drive { o with clk := false }

/-- SHIFT ch, p, col (43_scanout.md R172). The code ch = 3 spells no micro-op and is refused (30_encoding.md R88 case 2). -/
def execShift (ch : BitVec 2) (p : BitVec 4) (col : BitVec 6) (s : State) : Host.Outcome State Fault Refusal :=
  match chanOf ch with
  | some c => .next (s.clockOut (shiftOut s c p col))
  | none => .next (s.refuse .illegalEncoding)

/-- BLANK (43_scanout.md R173). -/
def execBlank (s : State) : Host.Outcome State Fault Refusal := .next (s.drive { s.out with oeN := true })

/-- LATCH (43_scanout.md R174): a fault while OE_n = 0, before any write; otherwise the strobe, up and down. -/
def execLatch (s : State) : Host.Outcome State Fault Refusal :=
  if s.out.oeN then .next ((s.drive { s.out with lat := true }).drive { s.out with lat := false })
  else .next (s.raise .hzLatchWhileEnabled .latch)

/-- SETADDR p (43_scanout.md R175): a fault while OE_n = 0, before any write; otherwise the row address. -/
def execSetaddr (p : BitVec 4) (s : State) : Host.Outcome State Fault Refusal :=
  if s.out.oeN then .next (s.drive { s.out with a := p })
  else .next (s.raise .hzAddrWhileEnabled (.setaddr p))

/-- UNBLANK (43_scanout.md R176). It is not checked (70_reset_and_hazards.md R227). -/
def execUnblank (s : State) : Host.Outcome State Fault Refusal := .next (s.drive { s.out with oeN := false })

end Sys2Proof.Machine
end

