-- ==== Sys2Proof/Machine/Score.lean ====
section
/-! DEFINITION. The score micro-ops, GUARD, APPLY, INC, DEC and RSTALL (42_score.md R151 to R155). -/

namespace Sys2Proof.Machine

/-- Both scores become 0 (42_score.md R155). -/
def State.clearScores (s : State) : State := s.setScore { b0 := 0, b1 := 0 }

/-- `score[b] <- (score[b] + 1) mod 256` (42_score.md R153). -/
def State.bumpScore (s : State) (b : Button) : State := s.setScore (s.score.set b (s.score.get b + 1))

/-- `score[b] <- (score[b] - 1) mod 256` (42_score.md R154). -/
def State.dropScore (s : State) (b : Button) : State := s.setScore (s.score.set b (s.score.get b - 1))

/-- GUARD (42_score.md R151): one score above SCORE_MAX resets both. -/
def execGuard (s : State) : Host.Outcome State Fault Refusal :=
  .next (if scoreOutOfRange s.cfg s.score then s.clearScores else s)

/-- Does `f` when the event bit is set. -/
def whenEvent (bit : Bool) (f : State → State) (s : State) : State := if bit then f s else s

/-- APPLY's effect (42_score.md R152): the reset, then the decrements of 0 and 1, then the increments of 0 and 1. -/
def State.applyEvents (s : State) : State :=
  let s1 := whenEvent (evReset s.ev) State.clearScores s
  let s2 := whenEvent (evDec s.ev .b0) (State.dropScore · .b0) s1
  let s3 := whenEvent (evDec s.ev .b1) (State.dropScore · .b1) s2
  let s4 := whenEvent (evInc s.ev .b0) (State.bumpScore · .b0) s3
  whenEvent (evInc s.ev .b1) (State.bumpScore · .b1) s4

/-- APPLY (42_score.md R152). `ev` is left unchanged. -/
def execApply (s : State) : Host.Outcome State Fault Refusal := .next s.applyEvents

/-- INC b (42_score.md R153). -/
def execInc (b : Button) (s : State) : Host.Outcome State Fault Refusal := .next (s.bumpScore b)

/-- DEC b (42_score.md R154). -/
def execDec (b : Button) (s : State) : Host.Outcome State Fault Refusal := .next (s.dropScore b)

/-- RSTALL (42_score.md R155): the two scores, and nothing else (90_conflicts.md C6). -/
def execRstall (s : State) : Host.Outcome State Fault Refusal := .next s.clearScores

end Sys2Proof.Machine
end

