-- ==== Sys2Proof/Machine/Sequencing.lean ====
section
/-! DEFINITION. The sequencing micro-ops, ADV and RWAIT (40_sequencer.md R103, R104). -/

namespace Sys2Proof.Machine

/-- A channel whose clock has advanced by `d`, modulo 2^CLK_W (40_sequencer.md R103). -/
def Channel.advance (d : Time) (c : Channel) : Channel := { c with holdClk := c.holdClk + d }

/-- ADV dt (40_sequencer.md R103): the time base and both channel clocks advance by dt, modulo 2^CLK_W. -/
def execAdv (dt : Dt) (s : State) : Host.Outcome State Fault Refusal :=
  .next ((s.setNowMs (s.nowMs + dtOperand dt)).setBtn (s.btn.map (Channel.advance (dtOperand dt))))

/-- RWAIT (40_sequencer.md R104): a RENDER_DONE the host has signalled is consumed; without one nothing happens, and the sequencer
stays where it is (R100). The host's own moves in the window are in Machine/HostPort.lean. -/
def execRwait (s : State) : Host.Outcome State Fault Refusal := .next (s.setRenderDone false)

end Sys2Proof.Machine
end

