-- ==== Sys2Proof/Machine/Dispatch.lean ====
section
/-! DEFINITION. Performing a micro-op by its rule (40_sequencer.md R100): one arm per micro-op. The sequencer position is not
touched here. -/

namespace Sys2Proof.Machine

def exec (i : Instr) (s : State) : Host.Outcome State Fault Refusal :=
  match i with
  | .adv dt => Sys2Proof.Machine.execAdv dt s
  | .smp b => Sys2Proof.Machine.execSmp b s
  | .eval => Sys2Proof.Machine.execEval s
  | .guard => Sys2Proof.Machine.execGuard s
  | .apply => Sys2Proof.Machine.execApply s
  | .rwait => Sys2Proof.Machine.execRwait s
  | .inc b => Sys2Proof.Machine.execInc b s
  | .dec b => Sys2Proof.Machine.execDec b s
  | .rstall => Sys2Proof.Machine.execRstall s
  | .shift ch p col => Sys2Proof.Machine.execShift ch p col s
  | .blank => Sys2Proof.Machine.execBlank s
  | .latch => Sys2Proof.Machine.execLatch s
  | .setaddr p => Sys2Proof.Machine.execSetaddr p s
  | .unblank => Sys2Proof.Machine.execUnblank s

end Sys2Proof.Machine
end

