-- ==== Sys2Proof/Machine/HostPort.lean ====
section
/-! DEFINITION. The host port (40_sequencer.md R109): FBWrite, RENDER_DONE and the score reads. -/

namespace Sys2Proof.Machine

/-- FBWrite's index check, turned round (20_memory.md R63). -/
def fbInRange (ch r c : Nat) : Bool :=
  decide (ch < Config.nch) && decide (r < Config.lrows) && decide (c < Config.cols)

/-- The render window is open: no fault, the sequencer stands at RWAIT (20_memory.md R63), and it has not been told RENDER_DONE
(40_sequencer.md R104, log 4). The refusal mark does not shut it: R63 tests the fault and seq_pc alone (log 5). -/
def windowOpen (s : State) : Bool := s.fault.isNone && decide (s.seqPc = 6) && !s.renderDone

/-- Whether a request has a step now (40_sequencer.md R109). An FBWrite out of range is refused at once, before the window is
looked at (20_memory.md R63). -/
def hostAdmits (s : State) : HostReq → Bool
  | .fbWrite ch r c _ => !fbInRange ch r c || windowOpen s
  | .renderDone => windowOpen s
  | .scoreRead _ => true

/-- A request's effect when it has a step. -/
def hostServe (s : State) : HostReq → State
  | .fbWrite ch r c v => if fbInRange ch r c then s.fbStore ch r c v else s.refuse .hostIndexRange
  | .renderDone => s.setRenderDone true
  | .scoreRead b => s.setReads (s.reads ++ [(b, s.score.get b)])

/-- The host decides what it asks for: with no request waiting, one free value says what it asks next, or that it asks nothing this
time (`Config.freeHost`; 00_scope.md R8, 40_sequencer.md R109). -/
def drawHost (s : State) : State :=
  match s.host with
  | [] => (s.setHost (Config.freeHost s.hostDrawn).toList).setHostDrawn (s.hostDrawn + 1)
  | _ :: _ => s

/-- The host's turn: its oldest request is served if it has a step now, and waits otherwise (20_memory.md R63). -/
def hostTurn (s : State) : Host.Outcome State Fault Refusal :=
  match s.host with
  | [] => .next s
  | q :: qs => if hostAdmits s q then .next (hostServe (s.setHost qs) q) else .next s

/-- The host has a request that has a step now. -/
def hostReady (s : State) : Bool :=
  match s.host with
  | [] => false
  | q :: _ => hostAdmits s q

end Sys2Proof.Machine
end

