-- ==== Sys2Proof/Machine/Microprogram.lean ====
section
/-! DEFINITION. The tick microprogram MP (40_sequencer.md R101) and the pseudo-operations of 30_encoding.md R92. -/

namespace Sys2Proof.Machine

/-- The micro-op column of 40_sequencer.md R101, rows 0 to 6. -/
def headInstr (dt : Dt) : Nat → Instr
  | 0 => .adv dt
  | 1 => .smp .b0
  | 2 => .smp .b1
  | 3 => .eval
  | 4 => .guard
  | 5 => .apply
  | _ => .rwait

/-- The micro-op column of 40_sequencer.md R101, the rows 7 + 68k + j of subframe k = 3p + ch. -/
def subframeInstr (k j : Nat) : Instr :=
  if j < 64 then .shift (BitVec.ofNat 2 (k % 3)) (BitVec.ofNat 4 (k / 3)) (BitVec.ofNat 6 j)
  else if j = 64 then .blank
  else if j = 65 then .latch
  else if j = 66 then .setaddr (BitVec.ofNat 4 (k / 3))
  else .unblank

/-- The micro-op column of 40_sequencer.md R101, the rows 3271 + j of the dummy cycle. -/
def dummyInstr (j : Nat) : Instr := if j < 64 then .shift 2#2 15#4 (BitVec.ofNat 6 j) else .blank

/-- The micro-op column of 40_sequencer.md R101 for the position `pc`, with ADV's dt field filled in. -/
def mpInstr (dt : Dt) (pc : Nat) : Instr :=
  if pc < 7 then headInstr dt pc
  else if pc < 3271 then subframeInstr ((pc - 7) / 68) ((pc - 7) % 68)
  else dummyInstr (pc - 3271)

/-- The word column of 40_sequencer.md R101, rows 0 to 6. -/
def headWord (dt : Dt) : Nat → Word
  | 0 => 0x1000#16 + dt.zeroExtend 16
  | 1 => 0x2000#16
  | 2 => 0x2001#16
  | 3 => 0x3000#16
  | 4 => 0x4000#16
  | 5 => 0x5000#16
  | _ => 0x6000#16

/-- The word column of 40_sequencer.md R101, the rows 7 + 68k + j of subframe k = 3p + ch. -/
def subframeWord (k j : Nat) : Word :=
  if j < 64 then BitVec.ofNat 16 (0xA000 + 1024 * (k % 3) + 64 * (k / 3) + j)
  else if j = 64 then 0xB000#16
  else if j = 65 then 0xC000#16
  else if j = 66 then BitVec.ofNat 16 (0xD000 + 64 * (k / 3))
  else 0xE000#16

/-- The word column of 40_sequencer.md R101, the rows 3271 + j of the dummy cycle. -/
def dummyWord (j : Nat) : Word := if j < 64 then BitVec.ofNat 16 (0xABC0 + j) else 0xB000#16

/-- The word column of 40_sequencer.md R101 for the position `pc`, with ADV's dt field filled in: the list MP itself. -/
def mpWord (dt : Dt) (pc : Nat) : Word :=
  if pc < 7 then headWord dt pc
  else if pc < 3271 then subframeWord ((pc - 7) / 68) ((pc - 7) % 68)
  else dummyWord (pc - 3271)

/-- `seq_pc <- seq_pc + 1`, or 0 after the last micro-op of the tick (40_sequencer.md R100, R102). -/
def nextPc (pc : Fin 3336) : Fin 3336 := if pc = 3335 then 0 else pc + 1

/-- The 64 SHIFTs of a row of one channel, column 0 first (43_scanout.md R182). -/
def shiftRow (ch : BitVec 2) (p : BitVec 4) : List Instr :=
  (List.range 64).map fun col => .shift ch p (BitVec.ofNat 6 col)

/-- `SUBFRAME ch, p` (30_encoding.md R92, 43_scanout.md R182). -/
def subframe (ch : BitVec 2) (p : BitVec 4) : List Instr := shiftRow ch p ++ [.blank, .latch, .setaddr p, .unblank]

/-- `DUMMY` (30_encoding.md R92, 43_scanout.md R183). -/
def dummy : List Instr := shiftRow 2#2 15#4 ++ [.blank]

/-- `SCANPASS` (30_encoding.md R92, 43_scanout.md R184). -/
def scanpass : List Instr :=
  ((List.range 16).flatMap fun p =>
    [0#2, 1#2, 2#2].flatMap fun ch => subframe ch (BitVec.ofNat 4 p)) ++ dummy

/-- `CLASSIFY dt` (30_encoding.md R92). -/
def classify (dt : Dt) : List Instr := [.adv dt, .smp .b0, .smp .b1, .eval, .guard, .apply]

/-- `TICK dt` (30_encoding.md R92). -/
def tick (dt : Dt) : List Instr := classify dt ++ [.rwait] ++ scanpass

end Sys2Proof.Machine
end

