-- ==== Sys2Proof/Machine/Sequencer.lean ====
section
/-! DEFINITION. The sequencer's step (40_sequencer.md R100), direct issue (R106), and whose move a step of the machine is
(00_scope.md R8). -/

namespace Sys2Proof.Machine

/-- The micro-op word at the sequencer position; at position 0 the environment fills ADV's dt (40_sequencer.md R100, R107). -/
def fetch (s : State) : Word × State :=
  if s.seqPc = 0 then (mpWord (drawDt s).1 0, (drawDt s).2) else (mpWord 0 s.seqPc.val, s)

/-- Moves the sequencer past micro-op `i`: RWAIT without RENDER_DONE holds it, and a faulting micro-op is not passed
(40_sequencer.md R100). `done` is RENDER_DONE as the micro-op found it. -/
def advancePc (i : Instr) (done : Bool) (s : State) : State :=
  if s.fault.isSome then s
  else if i = .rwait ∧ done = false then s
  else s.setSeqPc (nextPc s.seqPc)

/-- Performs micro-op `i` at the sequencer position and moves on (40_sequencer.md R100). -/
def performAndAdvance (i : Instr) (s : State) : Host.Outcome State Fault Refusal :=
  match exec i s with
  | .next t => .next (advancePc i s.renderDone t)
  | .fault r => .fault r
  | .refused r => .refused r

/-- The sequencer's step (40_sequencer.md R100). A word of MP is never Invalid (30_encoding.md R88); the refusal in that branch is
R88's. -/
def seqStep (s : State) : Host.Outcome State Fault Refusal :=
  match stopped s with
  | some stop => stop
  | none =>
    match decode (fetch s).1 with
    | .ok i => performAndAdvance i (fetch s).2
    | .invalid _ => .next ((fetch s).2.refuse .illegalEncoding)

/-- Direct issue of one word (40_sequencer.md R106): the micro-op's own rule applies and seq_pc does not change; an Invalid word is
refused (30_encoding.md R88). A halted machine has no step (60_exceptions.md R201, R202). -/
def issueWord (w : Word) (s : State) : Host.Outcome State Fault Refusal :=
  match stopped s with
  | some stop => stop
  | none =>
    match decode w with
    | .ok i => exec i s
    | .invalid _ => .next (s.refuse .illegalEncoding)

/-- One step when no turn is written down and the host has decided: the host moves if it has a request that has a step now, and the
sequencer otherwise. -/
def freeStep (s : State) : Host.Outcome State Fault Refusal := if hostReady s then hostTurn s else seqStep s

/-- One step of the machine: the move of the agent whose turn it is; the host decides freely when it has no request written down (log
2, 25). RESET works in every state (40_sequencer.md R109). -/
def takeTurn (s : State) : Host.Outcome State Fault Refusal :=
  match s.turns with
  | [] => freeStep (drawHost s)
  | .sequencer :: ts => seqStep (s.setTurns ts)
  | .host :: ts => hostTurn (drawHost (s.setTurns ts))
  | .harness w :: ts => issueWord w (s.setTurns ts)
  | .reset :: ts => .next (s.setTurns ts).applyReset

/-- Puts a direct issue of `w` before every other turn (40_sequencer.md R106): the one way the spec gives to run a chosen word. -/
def placeIssue (s : State) (w : Word) : State := s.setTurns (.harness w :: s.turns)

end Sys2Proof.Machine
end

