-- ==== Sys2Proof/Machine/Step.lean ====
section
/-! DEFINITION. One step of the machine, and placing a word where the next step runs it. -/

namespace Sys2Proof.Machine

/-- One step (Machine/Sequencer.lean). -/
def step (s : State) : Host.Outcome State Fault Refusal := takeTurn s

/-- `s` with the word `w` as the next direct issue (40_sequencer.md R106). MP itself is fixed and in no storage (20_memory.md R72),
so a chosen word runs by direct issue only. -/
def State.withFetchWord (s : State) (_nbits w : Nat) : State := placeIssue s (BitVec.ofNat 16 w)

end Sys2Proof.Machine
end

