-- ==== Sys2Proof/Machine/Assembler.lean ====
section
/-! DEFINITION. The assembler syntax of 30_encoding.md R91: a micro-op is its mnemonic and its operands. -/

namespace Sys2Proof.Machine

/-- The mnemonic (30_encoding.md R87). -/
def mnemonic : Instr → String
  | .adv _ => "ADV"
  | .smp _ => "SMP"
  | .eval => "EVAL"
  | .guard => "GUARD"
  | .apply => "APPLY"
  | .rwait => "RWAIT"
  | .inc _ => "INC"
  | .dec _ => "DEC"
  | .rstall => "RSTALL"
  | .shift _ _ _ => "SHIFT"
  | .blank => "BLANK"
  | .latch => "LATCH"
  | .setaddr _ => "SETADDR"
  | .unblank => "UNBLANK"

/-- The channel letter of a code (30_encoding.md R91). Code 3 has none and is written as its number. -/
def channelLetter (ch : BitVec 2) : String :=
  match ch.toNat with
  | 0 => "R"
  | 1 => "G"
  | 2 => "B"
  | _ => "3"

/-- The digit of a button (30_encoding.md R91). -/
def buttonDigit : Button → String
  | .b0 => "0"
  | .b1 => "1"

/-- The operands in assembler order (30_encoding.md R91). -/
def operandTexts : Instr → List String
  | .adv dt => [toString dt.toNat]
  | .smp b => [buttonDigit b]
  | .eval => []
  | .guard => []
  | .apply => []
  | .rwait => []
  | .inc b => [buttonDigit b]
  | .dec b => [buttonDigit b]
  | .rstall => []
  | .shift ch p col => [channelLetter ch, toString p.toNat, toString col.toNat]
  | .blank => []
  | .latch => []
  | .setaddr p => [toString p.toNat]
  | .unblank => []

/-- The assembler line of a micro-op (30_encoding.md R91). -/
def asmLine (i : Instr) : String :=
  match operandTexts i with
  | [] => mnemonic i
  | os => mnemonic i ++ " " ++ String.intercalate ", " os

end Sys2Proof.Machine
end

