-- ==== Sys2Proof/Machine/Observe.lean ====
section
/-! DEFINITION. The observation of 00_scope.md R14, running lists of micro-ops and steps, and the runs and ticks of 40_sequencer.md
R108. -/

namespace Sys2Proof.Machine

/-- The scores as the host can read them (10_state.md R34). -/
def State.scorePort (s : State) : Score × Score := (s.score.b0, s.score.b1)

/-- The scores the host can read at each render window that opens in the next `k` steps (00_scope.md R14). DESIGN CHOICE (log 27): a
window counts with the pair at its opening, the scores after the tick's APPLY (20_memory.md R70). The spec does not say which
pair counts when a direct issue changes the scores while seq_pc = 6. A window already open at `s` is not counted. -/
def windowScores : Nat → State → List (Score × Score)
  | 0, _ => []
  | k + 1, s =>
    match step s with
    | .next t => if s.seqPc ≠ 6 ∧ t.seqPc = 6 then t.scorePort :: windowScores k t else windowScores k t
    | .fault _ => []
    | .refused _ => []

/-- The state parts of the observation: the output trace and the fault state (00_scope.md R14). -/
def State.observe (s : State) : List Bus × Option FaultRecord := (s.trace, s.fault)

/-- Runs micro-ops one after another by their own rules, stopping at a fault or a refusal. -/
def execAll : List Instr → State → Host.Outcome State Fault Refusal
  | [], s => .next s
  | i :: is, s =>
    match exec i s with
    | .next t => if halted t then .next t else execAll is t
    | .fault r => .fault r
    | .refused r => .refused r

/-- `k` steps of the machine (the host's `Core.run` on this machine, spelled out). -/
def runSteps : Nat → State → Host.Outcome State Fault Refusal
  | 0, s => .next s
  | k + 1, s =>
    match step s with
    | .next t => runSteps k t
    | .fault r => .fault r
    | .refused r => .refused r

/-! ### Runs and ticks (40_sequencer.md R108) -/

/-- A run of the block: an infinite sequence of states in which each step is the sequencer's move or the host's, and before each of
them the environment and the host may have written down anything to come. No RESET and no direct issue falls inside a run (log
28). DESIGN CHOICE (log 29): moves of the host may follow one another for ever at any seq_pc, and on a halted machine, so a run can
stop ending ticks elsewhere than at RWAIT; R108 names only the hold there. -/
def IsRun (r : Nat → State) : Prop :=
  ∀ n, ∃ env host turn, (turn = Turn.sequencer ∨ turn = Turn.host) ∧
    step { r n with env := env, host := host, turns := [turn] } = .next (r (n + 1))

/-- The step of a run from `s` to `t` ends a tick: seq_pc returns from 3335 to 0 (40_sequencer.md R102, R108). -/
def endsTick (s t : State) : Bool := decide (s.seqPc = 3335) && decide (t.seqPc = 0)

/-- How many ticks the first `n` steps of a run end. -/
def ticksEnded (r : Nat → State) : Nat → Nat
  | 0 => 0
  | n + 1 => ticksEnded r n + if endsTick (r n) (r (n + 1)) then 1 else 0

/-- Step `n` of the run ends tick `k`, so that `r (n + 1)` is the state at the end of tick `k`: the step at which seq_pc returns from
3335 to 0 for the k-th time (40_sequencer.md R108). -/
def EndOfTick (r : Nat → State) (k n : Nat) : Prop := endsTick (r n) (r (n + 1)) = true ∧ ticksEnded r (n + 1) = k

end Sys2Proof.Machine
end

