-- ==== Sys2Proof/Machine/Panel.lean ====
section
/-! DEFINITION. The panel observer of 43_scanout.md R187 and the display windows of R186: functions of the output trace. The
observer is no part of the block (10_state.md R38), and no micro-op reads it. -/

namespace Sys2Proof.Machine

/-- The six data lines (43_scanout.md R178). -/
inductive Line where
  | r1
  | r2
  | g1
  | g2
  | b1
  | b2
deriving DecidableEq, Repr

/-- One value for each data line. -/
structure PerLine (α : Type) where
  r1 : α
  r2 : α
  g1 : α
  g2 : α
  b1 : α
  b2 : α
deriving DecidableEq, Repr

/-- The value of line `l`. -/
def PerLine.get {α : Type} (v : PerLine α) : Line → α
  | .r1 => v.r1
  | .r2 => v.r2
  | .g1 => v.g1
  | .g2 => v.g2
  | .b1 => v.b1
  | .b2 => v.b2

/-- Builds a value for each line. -/
def PerLine.of {α : Type} (f : Line → α) : PerLine α :=
  { r1 := f .r1, r2 := f .r2, g1 := f .g1, g2 := f .g2, b1 := f .b1, b2 := f .b2 }

/-- What a line carries in a bus word (30_encoding.md R90). -/
def Bus.line (o : Bus) : Line → Bool
  | .r1 => o.r1
  | .r2 => o.r2
  | .g1 => o.g1
  | .g2 => o.g2
  | .b1 => o.b1
  | .b2 => o.b2

/-- All six data lines are low. -/
def Bus.dark (o : Bus) : Bool := !o.r1 && !o.r2 && !o.g1 && !o.g2 && !o.b1 && !o.b2

/-- The observer's shift registers SR and latches LT; index 0 is the bit shifted last (43_scanout.md R187). -/
structure Panel where
  sr : PerLine (List Bool)
  lt : PerLine (List Bool)
deriving DecidableEq, Repr

/-- SR and LT all 0 (43_scanout.md R187). -/
def Panel.reset : Panel :=
  { sr := PerLine.of fun _ => List.replicate Config.cols false
    lt := PerLine.of fun _ => List.replicate Config.cols false }

/-- The observer at one emitted word `w`, with `w'` the word before it (43_scanout.md R187). -/
def Panel.see (w' w : Bus) (p : Panel) : Panel :=
  let sr := if !w'.clk && w.clk then PerLine.of fun l => w.line l :: (p.sr.get l).take (Config.cols - 1) else p.sr
  { sr := sr, lt := if !w'.lat && w.lat then sr else p.lt }

/-- The observer over a trace, oldest word first, with `w'` the word before it. -/
def Panel.watch : Bus → List Bus → Panel → Panel
  | _, [], p => p
  | w', w :: ws, p => Panel.watch w ws (Panel.see w' w p)

/-- The observer after the whole trace of a state. The word before the first one is OUT's reset value: reset emits no word
(70_reset_and_hazards.md R220). -/
def State.panel (s : State) : Panel := Panel.watch Bus.reset s.trace Panel.reset

/-- The line that carries a channel's upper half-panel row (43_scanout.md R178). -/
def upperLine : Chan → Line
  | .r => .r1
  | .g => .g1
  | .b => .b1

/-- The line that carries a channel's lower half-panel row (43_scanout.md R178). -/
def lowerLine : Chan → Line
  | .r => .r2
  | .g => .g2
  | .b => .b2

/-- What the panel shows of channel `c` on logical row `row` at shift-register position `j`, under the bus word `w`
(43_scanout.md R187): nothing while OE_n = 1 or on a row that A does not address. -/
def Panel.shows (p : Panel) (w : Bus) (c : Chan) (row j : Nat) : Bool :=
  !w.oeN &&
    ((decide (row = upperRow w.a) && ((p.lt.get (upperLine c)).getD j false)) ||
      (decide (row = lowerRow w.a) && ((p.lt.get (lowerLine c)).getD j false)))

/-- The physical column that position `j` lights (43_scanout.md R187, COL_MAP). -/
def physicalColumn (j : Fin 64) : Fin 64 := Config.colMap j

/-- The lengths of the runs of words with OE_n = 0, oldest first: the display windows (43_scanout.md R186). `n` is the length of
the run that is open. -/
def windowLengths : Nat → List Bus → List Nat
  | n, [] => if n = 0 then [] else [n]
  | n, w :: ws =>
    if w.oeN then (if n = 0 then windowLengths 0 ws else n :: windowLengths 0 ws) else windowLengths (n + 1) ws

end Sys2Proof.Machine
end

