-- ==== Sys2Proof/Safety.lean ====
section
/-! DEFINITION. What claims about the block are stated in: the parts of the state a micro-op leaves alone, and the invariants of
its runs. -/

namespace Sys2Proof.Machine

/-! ### Frames -/

/-- The button channel records, the time base and the event register are unchanged (10_state.md R21 to R29). -/
def SameClassifier (s t : State) : Prop := t.btn = s.btn ∧ t.nowMs = s.nowMs ∧ t.ev = s.ev

/-- The scores are unchanged (10_state.md R30). -/
def SameScores (s t : State) : Prop := t.score = s.score

/-- The panel lines are unchanged and nothing is emitted (10_state.md R31, 43_scanout.md R171). -/
def SamePanel (s t : State) : Prop := t.out = s.out ∧ t.trace = s.trace

/-- Every cell of the frame buffer reads as before (20_memory.md R60). -/
def SameMemory (s t : State) : Prop := ∀ a, Memory.read t.fb a = Memory.read s.fb a

/-- The sequencer position and the RENDER_DONE signal are unchanged (10_state.md R32, 40_sequencer.md R104). -/
def SameSequencer (s t : State) : Prop := t.seqPc = s.seqPc ∧ t.renderDone = s.renderDone

/-- The fault record and the refusal mark are unchanged (10_state.md R33). -/
def SameMarks (s t : State) : Prop := t.fault = s.fault ∧ t.refusal = s.refusal

/-- The configuration and what the agents outside the block hold, the environment apart, are unchanged. -/
def SameOutside (s t : State) : Prop := t.cfg = s.cfg ∧ t.host = s.host ∧ t.hostDrawn = s.hostDrawn ∧
  t.turns = s.turns ∧ t.reads = s.reads

/-- The environment's draws are unchanged: nothing was drawn (40_sequencer.md R107). -/
def SameEnv (s t : State) : Prop := t.env = s.env

/-! ### Whose move a step is -/

/-- The sequencer moves at `s`, from the state `u`: its turn is written down, or no turn is and the host, having decided, has no
request that has a step now (log 2, 25). -/
def SequencerMovesFrom (s u : State) : Prop :=
  (∃ ts, s.turns = .sequencer :: ts ∧ u = { s with turns := ts }) ∨
    (s.turns = [] ∧ hostReady (drawHost s) = false ∧ u = drawHost s)

/-- The host may move at `s`, from the state `u`, in which it has decided: its turn is written down, or no turn is (log 2, 25). -/
def HostMovesFrom (s u : State) : Prop :=
  (∃ ts, s.turns = .host :: ts ∧ u = drawHost { s with turns := ts }) ∨ (s.turns = [] ∧ u = drawHost s)

/-! ### Runs under the microprogram -/

/-- A turn that belongs to the block's normative behaviour: every one but a direct issue (40_sequencer.md R106). -/
def Turn.inMp : Turn → Bool
  | .sequencer => true
  | .host => true
  | .harness _ => false
  | .reset => true

/-- OE_n is 0 when the sequencer stands at `pc`: from each UNBLANK up to the next BLANK (43_scanout.md R185, R186). -/
def windowAt (pc : Nat) : Bool := decide (75 ≤ pc) && decide ((pc - 7) % 68 ≤ 64)

/-- The physical row the last SETADDR of the tick has driven, when the sequencer stands at `pc` (43_scanout.md R181). -/
def rowAt (pc : Nat) : Nat := min ((pc - 74) / 68) 47 / 3

/-- What holds at every point of a run under MP: no direct issue is to come, no fault has been raised, FB is in canonical form,
RENDER_DONE is pending only at RWAIT, the strobes are idle, OE_n is 0 exactly in the display windows, and A holds the row of
the last SETADDR. -/
structure MpInv (s : State) : Prop where
  turnsInMp : s.turns.all Turn.inMp = true
  noFault : s.fault = none
  fbCanonical : Memory.wf s.fb
  doneAtWait : s.renderDone = true → s.seqPc = 6
  clkIdle : s.out.clk = false
  latIdle : s.out.lat = false
  blankOutside : s.out.oeN = !windowAt s.seqPc.val
  rowDriven : 74 ≤ s.seqPc.val → s.out.a.toNat = rowAt s.seqPc.val
  rowBefore : s.seqPc.val < 74 → s.out.a = 0 ∨ s.out.a = 15

/-- 41_classifier.md R131: a pressed button's clock is at most T_RESET, and at most T_RESET + DT_MAX between the tick's ADV and its
EVAL. -/
def ClockBound (s : State) : Prop :=
  ∀ b, (s.btn.get b).curLevel = true →
    (s.btn.get b).holdClk.toNat ≤ s.cfg.tReset + if 1 ≤ s.seqPc.val ∧ s.seqPc.val ≤ 3 then Config.dtMax else 0

/-- 42_score.md R157: both scores are in range between GUARD and APPLY, and at most one above the ceiling or 255 elsewhere. -/
def ScoreBound (s : State) : Prop :=
  ∀ b, if s.seqPc.val = 5 then (s.score.get b).toNat ≤ s.cfg.scoreMax
    else (s.score.get b).toNat ≤ s.cfg.scoreMax + 1 ∨ (s.score.get b).toNat = 255

/-- 10_state.md R29: at most one of the groups reset, dec and inc of an event word has a bit set. -/
def evOneGroup (e : BitVec 5) : Bool :=
  !(evReset e && (evDec e .b0 || evDec e .b1)) && !(evReset e && (evInc e .b0 || evInc e .b1)) &&
    !((evDec e .b0 || evDec e .b1) && (evInc e .b0 || evInc e .b1))

/-! ### The output trace -/

/-- The six data lines of two words agree. -/
def sameData (w' w : Bus) : Bool :=
  w'.r1 == w.r1 && w'.r2 == w.r2 && w'.g1 == w.g1 && w'.g2 == w.g2 && w'.b1 == w.b1 && w'.b2 == w.b2

/-- The protocol between a word `w'` and the next word `w` (43_scanout.md R170, R179): a rising CLK edge has the data already on the
lines, LAT = 1 only with OE_n = 1, A changes only with OE_n = 1, and a falling OE_n changes no other line. -/
def protocolOk (w' w : Bus) : Bool :=
  (w'.clk || !w.clk || sameData w' w) && (!w.lat || w.oeN) && (decide (w'.a = w.a) || (w'.oeN && w.oeN)) &&
    (!w'.oeN || w.oeN || decide (w' = { w with oeN := true }))

/-- The protocol along a trace whose newest word is first. -/
def traceOk : List Bus → Bool
  | [] => true
  | [_] => true
  | w :: w' :: ws => protocolOk w' w && traceOk (w' :: ws)

/-- The trace from reset keeps the protocol, ends in the present value of OUT, and leaves the strobes idle. -/
structure TraceInv (s : State) : Prop where
  protocol : traceOk (s.traceRev ++ [Bus.reset]) = true
  endsInOut : (s.traceRev ++ [Bus.reset]).head? = some s.out
  clkIdle : s.out.clk = false
  latIdle : s.out.lat = false

/-- 43_scanout.md R189: the frame buffer is all 0, and every data line is and was low. -/
structure DarkInv (s : State) : Prop where
  fbEmpty : s.fb = []
  outDark : s.out.dark = true
  traceDark : s.traceRev.all Bus.dark = true

/-- How many words a micro-op emits (43_scanout.md R171). -/
def wordsOf : Instr → Nat
  | .shift _ _ _ => 3
  | .blank => 1
  | .latch => 2
  | .setaddr _ => 1
  | .unblank => 1
  | .adv _ => 0
  | .smp _ => 0
  | .eval => 0
  | .guard => 0
  | .apply => 0
  | .rwait => 0
  | .inc _ => 0
  | .dec _ => 0
  | .rstall => 0

/-- How many words a tick has emitted when the sequencer stands at `pc` (43_scanout.md R171, 40_sequencer.md R101). -/
def wordsBefore (pc : Nat) : Nat := ((List.range pc).map fun i => wordsOf (mpInstr 0 i)).sum

/-! ### What no decision reads -/

/-- A record without its two time stamps that no rule reads (10_state.md R24, R26). -/
def Channel.forget (c : Channel) : Channel := { c with pressStartedAt := 0, lastReleaseDur := 0 }

/-- A state without the time stamps and the time base they come from (10_state.md R24, R26, R28). -/
def State.forgetStamps (s : State) : State := { s with btn := s.btn.map Channel.forget, nowMs := 0 }

/-- An outcome's state without its time stamps. -/
def forgetOutcome : Host.Outcome State Fault Refusal → Host.Outcome State Fault Refusal
  | .next t => .next t.forgetStamps
  | .fault r => .fault r
  | .refused r => .refused r

end Sys2Proof.Machine
end

