-- ==== Sys2Proof/Certificates/Slice0/Obligations.lean ====
section
/-! DEFINITION. The statements about the SCAN-CLASSIFIER block, in the order of the spec's files. -/

open Sys2Proof Sys2Proof.Machine

/-! ### Encoding (30_encoding.md) -/

/-- R87, R88, R89: decoding the word of a well-formed micro-op gives that micro-op, with every operand at every value its field
admits. -/
def Obligations.DecodeOfEncodeIsTheMicroOp : Prop :=
  ∀ i : Instr, wellFormed i = true → decode (encode i) = .ok i

/-- R80 to R89: a word that decodes is the word of what it decodes to, which is well formed; so no two words spell one micro-op. -/
def Obligations.EncodeOfDecodeIsTheWord : Prop :=
  ∀ (w : Word) (i : Instr), decode w = .ok i → encode i = w ∧ wellFormed i = true

/-- R87: a word encodes a micro-op exactly when it matches that micro-op's row of the opcode table and the row's extra condition
holds; the condition is SHIFT's, that w[11:10] is not 3. -/
def Obligations.WordsMatchTheirTableRow : Prop :=
  ∀ (w : Word) (j : Instr), wellFormed j = true →
    ((∃ i, decode w = .ok i ∧ mnemonic i = mnemonic j) ↔
      w &&& rowMask j = rowMatch j ∧ (mnemonic j = "SHIFT" → w.extractLsb' 10 2 ≠ 3#2))

/-- R88, its three cases in order: an opcode 0 or 15, a SHIFT with ch = 3, and a 1 in a must-be-zero bit of format N, B or A spell no
micro-op. -/
def Obligations.ReservedWordsAreInvalid : Prop :=
  ∀ w : Word,
    (w.extractLsb' 12 4 = 0x0#4 ∨ w.extractLsb' 12 4 = 0xF#4 → decode w = .invalid .reservedOpcode) ∧
      (w.extractLsb' 12 4 = 0xA#4 → w.extractLsb' 10 2 = 3#2 → decode w = .invalid .reservedChannel) ∧
      (w.extractLsb' 12 4 ∈ [0x3#4, 0x4#4, 0x5#4, 0x6#4, 0x9#4, 0xB#4, 0xC#4, 0xE#4] → w.extractLsb' 0 12 ≠ 0#12 →
        decode w = .invalid .mustBeZero) ∧
      (w.extractLsb' 12 4 ∈ [0x2#4, 0x7#4, 0x8#4] → w.extractLsb' 1 11 ≠ 0#11 → decode w = .invalid .mustBeZero) ∧
      (w.extractLsb' 12 4 = 0xD#4 → w.extractLsb' 10 2 ≠ 0#2 ∨ w.extractLsb' 0 6 ≠ 0#6 → decode w = .invalid .mustBeZero)

/-- Words written out from the encodings of R81 and R87, with a micro-op of each family. -/
def Obligations.SampleWordsDecode : Prop :=
  decode 0b0001000011111010#16 = .ok (.adv 250#12) ∧
    decode 0b0010000000000001#16 = .ok (.smp .b1) ∧
    decode 0b0100000000000000#16 = .ok .guard ∧
    decode 0b1000000000000000#16 = .ok (.dec .b0) ∧
    decode 0b1010010011000101#16 = .ok (.shift 1#2 3#4 5#6) ∧
    decode 0b1101001111000000#16 = .ok (.setaddr 15#4)

/-- R90: the bus word has CLK, LAT, OE_n, R1, R2, G1, G2, B1, B2 at bits 0 to 8 and A at bits 12:9, no two panel states have one
word, every word is one, and the word at reset is 0x0004. -/
def Obligations.BusWordLayout : Prop :=
  (∀ o : Bus,
    [o.word.getLsbD 0, o.word.getLsbD 1, o.word.getLsbD 2, o.word.getLsbD 3, o.word.getLsbD 4, o.word.getLsbD 5,
        o.word.getLsbD 6, o.word.getLsbD 7, o.word.getLsbD 8] =
      [o.clk, o.lat, o.oeN, o.r1, o.r2, o.g1, o.g2, o.b1, o.b2] ∧
    o.word.extractLsb' 9 4 = o.a ∧ Bus.ofWord o.word = o) ∧
  (∀ w : BitVec 13, (Bus.ofWord w).word = w) ∧
  State.reset.out.word = 0x0004#13

/-! ### The microprogram (40_sequencer.md, 30_encoding.md) -/

/-- R88, R101: every word of MP decodes, and it decodes to the micro-op that R101's table puts at its index. -/
def Obligations.MicroprogramWordsAreLegal : Prop :=
  ∀ (dt : Dt) (pc : Fin 3336), decode (mpWord dt pc.val) = .ok (mpInstr dt pc.val)

/-- R92: the pseudo-operations have the word counts of the table, and `TICK dt` is MP with ADV's dt field filled in. -/
def Obligations.TickIsTheMicroprogram : Prop :=
  (∀ ch p, (subframe ch p).length = 68) ∧ dummy.length = 65 ∧ scanpass.length = 48 * 68 + 65 ∧
    ∀ dt : Dt, (classify dt).length = 6 ∧ (tick dt).length = 3336 ∧
      ∀ pc : Fin 3336, (tick dt)[pc.val]? = some (mpInstr dt pc.val)

/-- R182, R170: in MP every SETADDR comes directly after LATCH, which comes directly after BLANK, and every UNBLANK comes directly
after SETADDR. -/
def Obligations.SubframeClosesInOrder : Prop :=
  ∀ (dt : Dt) (pc : Nat), pc < 3336 →
    (mpInstr dt pc = .latch → 1 ≤ pc ∧ mpInstr dt (pc - 1) = .blank) ∧
      (∀ p, mpInstr dt pc = .setaddr p → 1 ≤ pc ∧ mpInstr dt (pc - 1) = .latch) ∧
      (mpInstr dt pc = .unblank → 1 ≤ pc ∧ ∃ p, mpInstr dt (pc - 1) = .setaddr p)

/-! ### The step (40_sequencer.md) -/

/-- R106: when a word is issued directly and decodes to micro-op i, the step is i's own rule at that state. -/
def Obligations.StepRunsTheIssuedMicroOp : Prop :=
  ∀ (s : State) (w : Nat) (i : Instr), stopped s = none → decode (BitVec.ofNat 16 w) = .ok i →
    step (s.withFetchWord 16 w) = exec i s

/-- R100, R101: when the sequencer moves, at its written turn whatever the host has waiting, or with no turn written down, the step
performs the micro-op of MP at the sequencer position by its rule, ADV with the time advance drawn, and then moves on unless the
micro-op faulted or waits. Whose move a step is, is the model's choice (log 2, 25). -/
def Obligations.StepRunsTheMicroprogram : Prop :=
  ∀ s u : State, stopped s = none → SequencerMovesFrom s u →
    let dt := (drawDt u).1
    let v := if s.seqPc = 0 then (drawDt u).2 else u
    ∃ t, exec (mpInstr dt s.seqPc.val) v = .next t ∧
      step s = .next
        (if t.fault.isSome = true ∨ (mpInstr dt s.seqPc.val = .rwait ∧ s.renderDone = false) then t
          else { t with seqPc := if s.seqPc = 3335 then 0 else s.seqPc + 1 })

/-- R106: a direct issue leaves seq_pc where it is. -/
def Obligations.DirectIssueKeepsTheSequencer : Prop :=
  ∀ (s t : State) (w : Word) (ts : List Turn), s.turns = .harness w :: ts → step s = .next t →
    t.seqPc = s.seqPc ∧ t.turns = ts

/-- R104, R100: when the sequencer moves at RWAIT, at its written turn whatever the host has waiting, or with no turn written down, it
is held without RENDER_DONE, and the block does not change; with RENDER_DONE it consumes the signal and goes to position 7. That
the signal is a pending bit (log 3) and whose move a step is (log 2, 25) are the model's choice. -/
def Obligations.RenderWaitHoldsAndReleases : Prop :=
  ∀ s u : State, stopped s = none → SequencerMovesFrom s u → s.seqPc = 6 →
    (s.renderDone = false → step s = .next u) ∧
      (s.renderDone = true → step s = .next { u with renderDone := false, seqPc := 7 })

/-- R104: RWAIT consumes RENDER_DONE and changes nothing else. That the signal is a pending bit, which a directly issued RWAIT
consumes as well, is the model's choice (log 3, 16). -/
def Obligations.RwaitConsumesRenderDone : Prop :=
  ∀ s : State, ∃ t, exec .rwait s = .next t ∧ t.renderDone = false ∧ t.seqPc = s.seqPc ∧
    SameClassifier s t ∧ SameScores s t ∧ SamePanel s t ∧ SameMemory s t ∧ SameMarks s t ∧ SameOutside s t ∧ SameEnv s t

/-- R103: ADV adds dt to the time base and to both channel clocks, modulo 2^32, and changes nothing else. -/
def Obligations.AdvAdvancesEveryClock : Prop :=
  ∀ (dt : Dt) (s : State), ∃ t, exec (.adv dt) s = .next t ∧
    t.nowMs.toNat = (s.nowMs.toNat + dt.toNat) % 2 ^ 32 ∧
    (∀ b, (t.btn.get b).holdClk.toNat = ((s.btn.get b).holdClk.toNat + dt.toNat) % 2 ^ 32 ∧
      t.btn.get b = { s.btn.get b with holdClk := (t.btn.get b).holdClk }) ∧
    t.ev = s.ev ∧ SameScores s t ∧ SamePanel s t ∧ SameMemory s t ∧ SameSequencer s t ∧ SameMarks s t ∧ SameOutside s t ∧
    SameEnv s t

/-! ### The classifier (41_classifier.md) -/

/-- R122: SMP b takes the drawn level L; a rising edge and a falling edge write what R122 says and clear the clock, and no edge
writes nothing further; the other button's record and everything else are unchanged but for the environment. -/
def Obligations.SmpTakesTheLevelAndItsEdge : Prop :=
  ∀ (b : Button) (s : State), ∃ t, exec (.smp b) s = .next t ∧
    (let l := (drawLevel b s).1
     let c := s.btn.get b
     let d := t.btn.get b
     d.prevLevel = c.curLevel ∧ d.curLevel = l ∧
       (c.curLevel = false → l = true →
         d.lastReleaseDur = c.holdClk ∧ d.pressStartedAt = s.nowMs ∧ d.pending = true ∧ d.holdClk = 0 ∧
           d.lastPressDur = c.lastPressDur) ∧
       (c.curLevel = true → l = false →
         d.lastPressDur = c.holdClk ∧ d.holdClk = 0 ∧ d.pending = c.pending ∧ d.lastReleaseDur = c.lastReleaseDur ∧
           d.pressStartedAt = c.pressStartedAt) ∧
       (c.curLevel = l → d = { c with prevLevel := c.curLevel })) ∧
    (∀ b', b' ≠ b → t.btn.get b' = s.btn.get b') ∧
    t.nowMs = s.nowMs ∧ t.ev = s.ev ∧ t.env = (drawLevel b s).2.env ∧
    SameScores s t ∧ SamePanel s t ∧ SameMemory s t ∧ SameSequencer s t ∧ SameMarks s t ∧ SameOutside s t

/-- R107, R122: the level SMP b draws is the next one the environment has written down for b, which is used up; when none is
written down, it is the next free value, which nothing constrains, and the counter goes on by one. The form of the draw is the
model's own (log 1). -/
def Obligations.SmpDrawsOneLevel : Prop :=
  ∀ (b : Button) (s t : State), exec (.smp b) s = .next t →
    (∀ l ls, s.env.levels.get b = l :: ls →
      (t.btn.get b).curLevel = l ∧ t.env.levels.get b = ls ∧ t.env.drawn = s.env.drawn) ∧
    (s.env.levels.get b = [] →
      (t.btn.get b).curLevel = Config.freeLevel s.env.drawn ∧ t.env.levels = s.env.levels ∧
        t.env.drawn = s.env.drawn + 1) ∧
    (∀ b', b' ≠ b → t.env.levels.get b' = s.env.levels.get b') ∧ t.env.dts = s.env.dts

/-- R124: when a pressed button's clock is above T_RESET, EVAL writes the event reset alone and restarts both clocks, pressed or
not, and changes nothing else. -/
def Obligations.EvalLevelOneResets : Prop :=
  ∀ s : State, (∃ b, (s.btn.get b).curLevel = true ∧ s.cfg.tReset < (s.btn.get b).holdClk.toNat) →
    ∃ t, exec .eval s = .next t ∧ t.ev = 0b00001#5 ∧
      (∀ b, t.btn.get b = { s.btn.get b with holdClk := 0 }) ∧
      t.nowMs = s.nowMs ∧ SameScores s t ∧ SamePanel s t ∧ SameMemory s t ∧ SameSequencer s t ∧ SameMarks s t ∧
      SameOutside s t ∧ SameEnv s t

/-- R125, R123: when level 1 does not fire and a pressed button with `pending` has a clock above T_DEC, EVAL writes exactly the
decrements of the buttons that qualify, clears those buttons' `pending`, and changes nothing else. -/
def Obligations.EvalLevelTwoDecrements : Prop :=
  ∀ s : State,
    let due := fun b => (s.btn.get b).curLevel = true ∧ s.cfg.tDec < (s.btn.get b).holdClk.toNat ∧ (s.btn.get b).pending = true
    (∀ b, (s.btn.get b).curLevel = true → (s.btn.get b).holdClk.toNat ≤ s.cfg.tReset) → (∃ b, due b) →
    ∃ t, exec .eval s = .next t ∧ evReset t.ev = false ∧
      (∀ b, (evDec t.ev b = true ↔ due b) ∧ evInc t.ev b = false ∧
        (due b → t.btn.get b = { s.btn.get b with pending := false }) ∧ (¬due b → t.btn.get b = s.btn.get b)) ∧
      t.nowMs = s.nowMs ∧ SameScores s t ∧ SamePanel s t ∧ SameMemory s t ∧ SameSequencer s t ∧ SameMarks s t ∧
      SameOutside s t ∧ SameEnv s t

/-- R126, R123: when neither level 1 nor level 2 fires, EVAL writes exactly the increments of the buttons whose last press lasted
strictly between T_DEBOUNCE and T_DEC, consumes both durations, and changes nothing else. -/
def Obligations.EvalLevelThreeIncrements : Prop :=
  ∀ s : State,
    (∀ b, (s.btn.get b).curLevel = true → (s.btn.get b).holdClk.toNat ≤ s.cfg.tReset) →
    (∀ b, (s.btn.get b).curLevel = true → (s.btn.get b).pending = true → (s.btn.get b).holdClk.toNat ≤ s.cfg.tDec) →
    ∃ t, exec .eval s = .next t ∧ evReset t.ev = false ∧
      (∀ b, evDec t.ev b = false ∧
        (evInc t.ev b = true ↔
          s.cfg.tDebounce < (s.btn.get b).lastPressDur.toNat ∧ (s.btn.get b).lastPressDur.toNat < s.cfg.tDec) ∧
        t.btn.get b = { s.btn.get b with lastPressDur := 0 }) ∧
      t.nowMs = s.nowMs ∧ SameScores s t ∧ SamePanel s t ∧ SameMemory s t ∧ SameSequencer s t ∧ SameMarks s t ∧
      SameOutside s t ∧ SameEnv s t

/-- R27, R130: in any step, `pending[b]` is set only with a rising edge of b, and apart from reset it is cleared only with the event
decrement(b). -/
def Obligations.PendingIsSetByPressClearedByDecrement : Prop :=
  ∀ (s t : State) (b : Button), step s = .next t →
    ((s.btn.get b).pending = false → (t.btn.get b).pending = true →
      (t.btn.get b).prevLevel = false ∧ (t.btn.get b).curLevel = true ∧ (t.btn.get b).holdClk = 0) ∧
    ((s.btn.get b).pending = true → (t.btn.get b).pending = false →
      s.turns.head? = some .reset ∨ (evDec t.ev b = true ∧ (s.btn.get b).curLevel = true ∧
        s.cfg.tDec < (s.btn.get b).holdClk.toNat))

/-- R131: with T_RESET + DT_MAX below 2^32, the bound on a pressed button's clock is kept by every step under MP; so such a clock
never wraps. -/
def Obligations.PressedClockStaysBounded : Prop :=
  ∀ s t : State, s.cfg.tReset + Config.dtMax < 2 ^ 32 → s.turns.all Turn.inMp = true → ClockBound s → step s = .next t →
    ClockBound t

/-- R24, R26, R28, R103: no decision reads a press's start, a release's duration or the time base: two runs that differ only in
those take the same step but for those. -/
def Obligations.TimeStampsAreNeverRead : Prop :=
  ∀ s : State, forgetOutcome (step s.forgetStamps) = forgetOutcome (step s)

/-! ### The scores (42_score.md) -/

/-- R151, R156: GUARD resets both scores when either is above SCORE_MAX, leaves both alone otherwise, and changes nothing else. -/
def Obligations.GuardResetsBothOrNothing : Prop :=
  ∀ s : State, ∃ t, exec .guard s = .next t ∧
    ((∃ b, s.cfg.scoreMax < (s.score.get b).toNat) → ∀ b, t.score.get b = 0) ∧
    ((∀ b, (s.score.get b).toNat ≤ s.cfg.scoreMax) → ∀ b, t.score.get b = s.score.get b) ∧
    SameClassifier s t ∧ SamePanel s t ∧ SameMemory s t ∧ SameSequencer s t ∧ SameMarks s t ∧ SameOutside s t ∧ SameEnv s t

/-- R152: APPLY performs the reset, then the decrements, then the increments of `ev`, modulo 256, leaves `ev` alone, and changes
nothing else. -/
def Obligations.ApplyPerformsTheEvents : Prop :=
  ∀ s : State, ∃ t, exec .apply s = .next t ∧
    (∀ b, t.score.get b =
      (if evReset s.ev = true then 0#8 else s.score.get b) - (if evDec s.ev b = true then 1#8 else 0#8) +
        (if evInc s.ev b = true then 1#8 else 0#8)) ∧
    SameClassifier s t ∧ SamePanel s t ∧ SameMemory s t ∧ SameSequencer s t ∧ SameMarks s t ∧ SameOutside s t ∧ SameEnv s t

/-- R153, R154: INC b adds 1 and DEC b subtracts 1 modulo 256 on score b; the other score and everything else are unchanged. -/
def Obligations.IncAndDecWrapAtTheScoreWidth : Prop :=
  ∀ (b : Button) (s : State),
    (∃ t, exec (.inc b) s = .next t ∧ (t.score.get b).toNat = ((s.score.get b).toNat + 1) % 256 ∧
      (∀ b', b' ≠ b → t.score.get b' = s.score.get b') ∧ SameClassifier s t ∧ SamePanel s t ∧ SameMemory s t ∧
      SameSequencer s t ∧ SameMarks s t ∧ SameOutside s t ∧ SameEnv s t) ∧
    (∃ t, exec (.dec b) s = .next t ∧ (t.score.get b).toNat = ((s.score.get b).toNat + 255) % 256 ∧
      (∀ b', b' ≠ b → t.score.get b' = s.score.get b') ∧ SameClassifier s t ∧ SamePanel s t ∧ SameMemory s t ∧
      SameSequencer s t ∧ SameMarks s t ∧ SameOutside s t ∧ SameEnv s t)

/-- R155: RSTALL clears both scores and touches nothing else, the button channels, the clocks and the frame buffer among it. -/
def Obligations.RstallClearsTheScoresOnly : Prop :=
  ∀ s : State, ∃ t, exec .rstall s = .next t ∧ (∀ b, t.score.get b = 0) ∧
    SameClassifier s t ∧ SamePanel s t ∧ SameMemory s t ∧ SameSequencer s t ∧ SameMarks s t ∧ SameOutside s t ∧ SameEnv s t

/-- R157: under MP every step keeps the score ranges: in range after GUARD, and elsewhere at most one above the ceiling or 255. -/
def Obligations.ScoresStayInTheirRanges : Prop :=
  ∀ s t : State, s.turns.all Turn.inMp = true → ScoreBound s → step s = .next t → ScoreBound t

/-- R29: every step, a direct issue among them, keeps at most one of the groups reset, dec and inc of `ev` set. -/
def Obligations.EventsStayInOneGroup : Prop :=
  ∀ s t : State, evOneGroup s.ev = true → step s = .next t → evOneGroup t.ev = true

/-! ### Scan-out (43_scanout.md) -/

/-- R172, R177, R178: SHIFT drives the two bits of the column on its channel's lines, drives 0 on the others under ZERO and leaves
them under HOLD, and emits the data word, the word with CLK = 1 and the word with CLK = 0; everything else is unchanged. That the
data word carries CLK as OUT holds it, which is 0 wherever CLK is idle, is the model's reading (log 22). -/
def Obligations.ShiftDrivesAndClocksOnePair : Prop :=
  ∀ (ch : BitVec 2) (c : Chan) (p : BitVec 4) (col : BitVec 6) (s : State), chanOf ch = some c →
    ∃ t o, exec (.shift ch p col) s = .next t ∧
      o.line (upperLine c) = s.fbRead ch.toNat p.toNat col.toNat ∧
      o.line (lowerLine c) = s.fbRead ch.toNat (p.toNat + 16) col.toNat ∧
      (∀ l, l ≠ upperLine c → l ≠ lowerLine c →
        o.line l = match s.cfg.inactive with | .zero => false | .hold => s.out.line l) ∧
      o.clk = s.out.clk ∧ o.lat = s.out.lat ∧ o.oeN = s.out.oeN ∧ o.a = s.out.a ∧
      t.trace = s.trace ++ [o, { o with clk := true }, { o with clk := false }] ∧ t.out = { o with clk := false } ∧
      SameClassifier s t ∧ SameScores s t ∧ SameMemory s t ∧ SameSequencer s t ∧ SameMarks s t ∧ SameOutside s t ∧ SameEnv s t

/-- R173, R176: BLANK drives OE_n to 1 and UNBLANK drives it to 0; each emits the one word, and everything else is unchanged.
UNBLANK is not checked. -/
def Obligations.BlankAndUnblankDriveOutputEnable : Prop :=
  ∀ s : State,
    (∃ t, exec .blank s = .next t ∧ t.out = { s.out with oeN := true } ∧ t.trace = s.trace ++ [t.out] ∧
      SameClassifier s t ∧ SameScores s t ∧ SameMemory s t ∧ SameSequencer s t ∧ SameMarks s t ∧ SameOutside s t ∧
      SameEnv s t) ∧
    (∃ t, exec .unblank s = .next t ∧ t.out = { s.out with oeN := false } ∧ t.trace = s.trace ++ [t.out] ∧
      SameClassifier s t ∧ SameScores s t ∧ SameMemory s t ∧ SameSequencer s t ∧ SameMarks s t ∧ SameOutside s t ∧
      SameEnv s t)

/-- R174: while OE_n = 1, LATCH emits the word with LAT = 1 and then the word with LAT = 0, and everything else is unchanged; while
OE_n = 0, it raises HZ_LATCH_WHILE_ENABLED, which records its word 0xC000 and changes nothing else. -/
def Obligations.LatchStrobesOnlyWhileBlank : Prop :=
  ∀ s : State,
    (s.out.oeN = true → ∃ t, exec .latch s = .next t ∧
      t.trace = s.trace ++ [{ s.out with lat := true }, { s.out with lat := false }] ∧ t.out = { s.out with lat := false } ∧
      SameClassifier s t ∧ SameScores s t ∧ SameMemory s t ∧ SameSequencer s t ∧ SameMarks s t ∧ SameOutside s t ∧
      SameEnv s t) ∧
    (s.out.oeN = false →
      exec .latch s = .next { s with fault := some { reason := .hzLatchWhileEnabled, word := 0xC000#16 } })

/-- R175: while OE_n = 1, SETADDR p drives A to p and emits the one word, and everything else is unchanged; while OE_n = 0, it
raises HZ_ADDR_WHILE_ENABLED, which records its word `0xD000 | p << 6` and changes nothing else. -/
def Obligations.SetaddrDrivesTheRowOnlyWhileBlank : Prop :=
  ∀ (p : BitVec 4) (s : State),
    (s.out.oeN = true → ∃ t, exec (.setaddr p) s = .next t ∧ t.out = { s.out with a := p } ∧ t.trace = s.trace ++ [t.out] ∧
      SameClassifier s t ∧ SameScores s t ∧ SameMemory s t ∧ SameSequencer s t ∧ SameMarks s t ∧ SameOutside s t ∧
      SameEnv s t) ∧
    (s.out.oeN = false →
      exec (.setaddr p) s =
        .next { s with fault := some { reason := .hzAddrWhileEnabled, word := 0xD000#16 ||| p.zeroExtend 16 <<< 6 } })

/-- R171: a micro-op that raises no fault and is well formed emits its fixed number of words, and the micro-ops outside the scan-out
emit none and leave OUT unchanged. -/
def Obligations.EachMicroOpEmitsItsWords : Prop :=
  ∀ (i : Instr) (s t : State), wellFormed i = true → s.fault = none → exec i s = .next t → t.fault = none →
    t.trace.length = s.trace.length + wordsOf i ∧ s.trace <+: t.trace ∧ (wordsOf i = 0 → t.out = s.out)

/-- R170, R179, R224 to R226: every step, a direct issue among them, keeps the protocol of the trace: a rising CLK edge has the data
on the lines, LAT = 1 only with OE_n = 1, A changes only with OE_n = 1, and a falling OE_n changes nothing else. -/
def Obligations.TraceKeepsTheProtocol : Prop :=
  ∀ s t : State, TraceInv s → step s = .next t → TraceInv t

/-- R185, R181, R201, R32: every step under MP keeps `MpInv`: OE_n is 0 exactly in the display windows, A holds the row of the last
SETADDR, the strobes are idle, FB is in canonical form, and no fault is ever raised. -/
def Obligations.MicroprogramKeepsItsInvariant : Prop :=
  ∀ s t : State, MpInv s → step s = .next t → MpInv t

/-- The invariants hold right after reset (R220), under every valid configuration. -/
def Obligations.ResetMeetsTheInvariants : Prop :=
  ∀ c : Config, configValid c = true →
    MpInv (State.boot c) ∧ TraceInv (State.boot c) ∧ ClockBound (State.boot c) ∧ ScoreBound (State.boot c) ∧
      evOneGroup (State.boot c).ev = true ∧ DarkInv (State.boot c)

/-- R189: from a state with an all-zero frame buffer and dark lines, every step keeps every data line low, in OUT and in the trace; and
unless the host's oldest request writes a 1, the frame buffer stays all 0 as well. -/
def Obligations.AllZeroFrameStaysDark : Prop :=
  ∀ s t : State, DarkInv s → step s = .next t →
    t.out.dark = true ∧ t.traceRev.all Bus.dark = true ∧
      ((∀ ch r c qs, (drawHost s).host ≠ .fbWrite ch r c true :: qs) → DarkInv t)

/-- R186, R190: one scan pass under MP takes the sequencer's 3329 steps from position 7 back to 0, whatever the host has waiting, emits
9649 words whose display windows are 48 runs of exactly 193 words, and leaves the frame buffer, the classifier, the scores and
the host's requests alone. -/
def Obligations.ScanPassHasEqualWindows : Prop :=
  ∀ (s : State) (ts : List Turn), MpInv s → stopped s = none → s.seqPc = 7 → s.turns = List.replicate 3329 .sequencer ++ ts →
    ∃ t ws, runSteps 3329 s = .next t ∧ t.seqPc = 0 ∧ t.trace = s.trace ++ ws ∧ ws.length = 9649 ∧
      windowLengths 0 ws = List.replicate 48 193 ∧ t.turns = ts ∧ t.host = s.host ∧
      SameClassifier s t ∧ SameScores s t ∧ SameMemory s t

/-- R188: after SUBFRAME ch, p the observer's latches of ch's lines hold the two rows of the frame buffer, column 63 - j at
position j, and the other lines are all 0 under ZERO and 64 copies of what they carried under HOLD. The observer is the spec's
own choice (R187). -/
def Obligations.SubframeLatchesItsRows : Prop :=
  ∀ (ch : BitVec 2) (c : Chan) (p : BitVec 4) (s : State), chanOf ch = some c → TraceInv s → stopped s = none →
    ∃ t, execAll (subframe ch p) s = .next t ∧ t.fault = none ∧
      (∀ j : Nat, j < 64 →
        (t.panel.lt.get (upperLine c))[j]? = some (s.fbRead ch.toNat p.toNat (63 - j)) ∧
          (t.panel.lt.get (lowerLine c))[j]? = some (s.fbRead ch.toNat (p.toNat + 16) (63 - j))) ∧
      (∀ l, l ≠ upperLine c → l ≠ lowerLine c →
        t.panel.lt.get l =
          List.replicate 64 (match s.cfg.inactive with | .zero => false | .hold => s.out.line l))

/-! ### The frame buffer and the host port (20_memory.md, 40_sequencer.md) -/

/-- R63, the three cases of FBWrite, at the host's written turn or with no turn written down. Out of range: refused wherever the
sequencer stands, and nothing else changes but the host's queue; that a faulted machine refuses it too is the model's reading (log
8), and a refusal mark already set keeps its reason (log 7). In range, but with the window shut: no step, and the request still
waits; the written turn passes, and with no turn written down the step is the sequencer's. In range in the render window, on a refused
machine too (log 5): the one bit is written and no other, and nothing else changes. That the window is shut once RENDER_DONE is
signalled (log 4), and when the host moves (log 2, 25), is the model's choice. -/
def Obligations.FbWriteFollowsItsRule : Prop :=
  ∀ (s u : State) (ch r c : Nat) (v : Bool) (qs : List HostReq), HostMovesFrom s u → u.host = .fbWrite ch r c v :: qs →
    (2 < ch ∨ 31 < r ∨ 63 < c →
      step s = .next { u with refusal := some (s.refusal.getD .hostIndexRange), host := qs }) ∧
    (ch < 3 → r < 32 → c < 64 → s.fault.isSome = true ∨ s.seqPc ≠ 6 ∨ s.renderDone = true →
      (s.turns = [] → step s = seqStep u) ∧ (s.turns ≠ [] → step s = .next u)) ∧
    (ch < 3 → r < 32 → c < 64 → Memory.wf s.fb → s.fault = none → s.seqPc = 6 → s.renderDone = false →
      ∃ t, step s = .next t ∧ t.fbRead ch r c = v ∧ t.host = qs ∧ t.turns = u.turns ∧
        (∀ a, a ≠ fbIndex ch r c → Memory.read t.fb a = Memory.read s.fb a) ∧
        (∀ ch' r' c', r' < 32 → c' < 64 → (ch', r', c') ≠ (ch, r, c) → t.fbRead ch' r' c' = s.fbRead ch' r' c') ∧
        SameClassifier s t ∧ SameScores s t ∧ SamePanel s t ∧ SameSequencer s t ∧ SameMarks s t ∧ SameEnv s t ∧
        t.cfg = s.cfg ∧ t.reads = s.reads ∧ t.hostDrawn = u.hostDrawn)

/-- R63, R228: with no turn written down, an FBWrite in range that comes while the sequencer stands outside the render window does not
delay the sequencer: the step is the sequencer's, and the request is still there after it. Whose move a step is with no turn
written down is the model's choice (log 2). -/
def Obligations.EarlyFbWriteWaitsForTheWindow : Prop :=
  ∀ (s : State) (ch r c : Nat) (v : Bool) (qs : List HostReq),
    s.turns = [] → s.host = .fbWrite ch r c v :: qs → ch < 3 → r < 32 → c < 64 → stopped s = none → s.seqPc ≠ 6 →
    step s = seqStep s ∧ ∃ t, step s = .next t ∧ t.host = s.host ∧ t.fb = s.fb

/-- R34, R109: at the host's written turn, or with no turn written down, a score read has a step at any time, gives the score's value
and changes nothing of the block; RENDER_DONE has a step in the render window. Outside it a RENDER_DONE waits: the host's written
turn passes with no effect, and with no turn written down the step is the sequencer's. The model's choices: when the host moves
(log 2, 25), that a read is recorded in State.reads and served on a halted machine (log 17), that RENDER_DONE sets a pending bit
in a step of its own (log 3), and that the window is shut after it and on a faulted machine (log 4, 5). -/
def Obligations.HostReadsScoresAndEndsTheWindow : Prop :=
  ∀ (s u : State) (qs : List HostReq), HostMovesFrom s u →
    (∀ b, u.host = .scoreRead b :: qs → step s = .next { u with host := qs, reads := u.reads ++ [(b, u.score.get b)] }) ∧
    (u.host = .renderDone :: qs → s.fault = none → s.seqPc = 6 → s.renderDone = false →
      step s = .next { u with host := qs, renderDone := true }) ∧
    (u.host = .renderDone :: qs → s.fault.isSome = true ∨ s.seqPc ≠ 6 ∨ s.renderDone = true →
      (s.turns = [] → step s = seqStep u) ∧ (s.turns ≠ [] → step s = .next u))

/-- R64, R63, R70: apart from a reset, the only step that changes FB is an FBWrite in range, served with no fault in the render window
before RENDER_DONE; it writes its one bit. That the window is shut once RENDER_DONE is signalled is the model's reading (log 4), and the
host's request may be one it has decided freely (log 25). -/
def Obligations.FrameBufferChangesByFbWriteOnly : Prop :=
  ∀ s t : State, step s = .next t → s.turns.head? ≠ some .reset →
    t.fb = s.fb ∨
      (s.fault = none ∧ s.seqPc = 6 ∧ s.renderDone = false ∧ ∃ ch r c v qs, (drawHost s).host = .fbWrite ch r c v :: qs ∧
        ch < 3 ∧ r < 32 ∧ c < 64 ∧ t.host = qs ∧ t.fb = Memory.write s.fb (fbIndex ch r c) (fbCell v))

/-- R60: every step keeps the frame buffer a plane of bits, in its one canonical form. -/
def Obligations.FrameBufferStaysCanonical : Prop :=
  ∀ s t : State, Memory.wf s.fb → step s = .next t → Memory.wf t.fb

/-! ### The state, stopping and reset (10_state.md, 60_exceptions.md, 70_reset_and_hazards.md) -/

/-- R21 to R31: which micro-ops write which register, for each button its own SMP: every other micro-op leaves it as it is. -/
def Obligations.OnlyTheListedMicroOpsWrite : Prop :=
  ∀ (i : Instr) (s t : State), exec i s = .next t →
    ((∀ dt, i ≠ .adv dt) → t.nowMs = s.nowMs) ∧
    ((∀ dt, i ≠ .adv dt) → (∀ b, i ≠ .smp b) → i ≠ .eval → t.btn = s.btn) ∧
    (∀ b, i ≠ .smp b → (t.btn.get b).prevLevel = (s.btn.get b).prevLevel ∧ (t.btn.get b).curLevel = (s.btn.get b).curLevel ∧
      (t.btn.get b).pressStartedAt = (s.btn.get b).pressStartedAt ∧
      (t.btn.get b).lastReleaseDur = (s.btn.get b).lastReleaseDur) ∧
    (∀ b, i ≠ .smp b → i ≠ .eval → (t.btn.get b).lastPressDur = (s.btn.get b).lastPressDur ∧
      (t.btn.get b).pending = (s.btn.get b).pending) ∧
    (∀ b, (∀ dt, i ≠ .adv dt) → i ≠ .smp b → i ≠ .eval → (t.btn.get b).holdClk = (s.btn.get b).holdClk) ∧
    (i ≠ .eval → t.ev = s.ev) ∧
    (i ≠ .guard → i ≠ .apply → i ≠ .rstall → (∀ b, i ≠ .inc b) → (∀ b, i ≠ .dec b) → t.score = s.score) ∧
    ((∀ ch p col, i ≠ .shift ch p col) → i ≠ .blank → i ≠ .latch → (∀ p, i ≠ .setaddr p) → i ≠ .unblank → t.out = s.out) ∧
    t.fb = s.fb ∧ t.seqPc = s.seqPc

/-- R36, R6: no step writes the configuration. -/
def Obligations.ConfigurationNeverChanges : Prop :=
  ∀ s t : State, step s = .next t → t.cfg = s.cfg

/-- R201: a LATCH or SETADDR word issued while OE_n = 0 sets the fault and records the word; nothing else changes, seq_pc among it;
and from then on neither the sequencer nor a direct issue has a step. That a direct issue on a faulted machine has none, and that
the stop is the step's outcome, is the model's reading (log 6). -/
def Obligations.RaisedFaultStopsTheMachine : Prop :=
  ∀ (s : State) (p : BitVec 4), stopped s = none → s.out.oeN = false →
    (let f : FaultRecord := { reason := .hzLatchWhileEnabled, word := 0xC000#16 }
     step (s.withFetchWord 16 0xC000) = .next { s with fault := some f } ∧
       seqStep { s with fault := some f } = .fault .hzLatchWhileEnabled ∧
       ∀ w, step ({ s with fault := some f }.withFetchWord 16 w) = .fault .hzLatchWhileEnabled) ∧
    (let f : FaultRecord := { reason := .hzAddrWhileEnabled, word := BitVec.ofNat 16 (0xD000 + 64 * p.toNat) }
     step (s.withFetchWord 16 (0xD000 + 64 * p.toNat)) = .next { s with fault := some f } ∧
       seqStep { s with fault := some f } = .fault .hzAddrWhileEnabled ∧
       ∀ w, step ({ s with fault := some f }.withFetchWord 16 w) = .fault .hzAddrWhileEnabled)

/-- R88, R202: the direct issue of a word that decodes to Invalid sets the refusal mark and changes nothing else. That performing a
SHIFT term with the reserved channel code 3, which no word spells, does the same is the model's reading (log 18). -/
def Obligations.IllegalWordsAreRefused : Prop :=
  ∀ (s : State), stopped s = none →
    (∀ (w : Nat) (why : Invalid), decode (BitVec.ofNat 16 w) = .invalid why →
      step (s.withFetchWord 16 w) = .next { s with refusal := some .illegalEncoding }) ∧
    (∀ (p : BitVec 4) (col : BitVec 6), exec (.shift 3#2 p col) s = .next { s with refusal := some .illegalEncoding })

/-- R100, R201, R202, R206: on a faulted machine, and on a refused one, neither the sequencer (at its written turn, or with no turn
written down) nor a direct issue has a step. On a faulted machine only the host still has one, a score read or an FBWrite out of
range: it changes nothing of the block but the refusal mark. On a refused one the host has its moves in the render window as well,
which change only the frame buffer and the RENDER_DONE signal. A step that is not a reset keeps the fault and the refusal mark. The
form of the stop (log 6), the fault's place before the refusal (log 26), and what the host may still do (log 5, 8, 17) are the
model's choice. -/
def Obligations.HaltedMachineHasNoStep : Prop :=
  ∀ s : State,
    (∀ f, s.fault = some f → (∀ u, SequencerMovesFrom s u → step s = .fault f.reason) ∧
      ∀ w, step (s.withFetchWord 16 w) = .fault f.reason) ∧
    (∀ r, s.fault = none → s.refusal = some r → (∀ u, SequencerMovesFrom s u → step s = .refused r) ∧
      ∀ w, step (s.withFetchWord 16 w) = .refused r) ∧
    (∀ t, step s = .next t → s.turns.head? ≠ some .reset → s.fault.isSome = true →
      t = { s with refusal := t.refusal, reads := t.reads, host := t.host, hostDrawn := t.hostDrawn, turns := t.turns }) ∧
    (∀ t, step s = .next t → s.turns.head? ≠ some .reset → stopped s ≠ none →
      t = { s with
        fb := t.fb, renderDone := t.renderDone, refusal := t.refusal, reads := t.reads, host := t.host,
        hostDrawn := t.hostDrawn, turns := t.turns }) ∧
    (∀ t, step s = .next t → s.turns.head? ≠ some .reset → s.fault.isSome = true → t.fault = s.fault) ∧
    (∀ t, step s = .next t → s.turns.head? ≠ some .reset → s.refusal.isSome = true → t.refusal = s.refusal)

/-- R7, R202: a configuration that breaks R7 is refused: the state it boots to has the mark set, and the sequencer's step there, and a
direct issue's, is the refusal. R7 says only that a model should refuse it; where it does so is the model's reading (log 13). -/
def Obligations.InvalidConfigurationIsRefused : Prop :=
  ∀ c : Config,
    ¬(c.tDebounce < c.tDec ∧ c.tDec < c.tReset ∧ c.tReset < 2 ^ 32 ∧ c.scoreMax < 255) →
      (State.boot c).refused = true ∧
      (∀ ts, step { State.boot c with turns := .sequencer :: ts } = .refused .configInvalid) ∧
      ∀ w, step ((State.boot c).withFetchWord 16 w) = .refused .configInvalid

/-- R220, R39: the values after reset. -/
def Obligations.ResetLeavesTheStatedValues : Prop :=
  ∀ c : Config, configValid c = true →
    let s := State.boot c
    (∀ b, (s.btn.get b).prevLevel = false ∧ (s.btn.get b).curLevel = false ∧ (s.btn.get b).holdClk = 0 ∧
      (s.btn.get b).pressStartedAt = 0 ∧ (s.btn.get b).lastPressDur = 0 ∧ (s.btn.get b).lastReleaseDur = 0 ∧
      (s.btn.get b).pending = false ∧ s.score.get b = 0) ∧
    s.nowMs = 0 ∧ s.ev = 0 ∧ s.out.word = 0x0004#13 ∧ s.seqPc = 0 ∧ s.fault = none ∧ s.refused = false ∧
    (∀ ch r col, s.fbRead ch r col = false)

/-- R109, R206, R220: RESET asserted in any state, a faulted or refused one too, gives the state after reset under the same
configuration, but for what the agents outside the block hold. The model's choices: a pending RENDER_DONE is dropped (log 3), the
trace starts anew (log 10), and the configuration and the outside agents' data stay (log 11). -/
def Obligations.ResetWorksInEveryState : Prop :=
  ∀ (s : State) (ts : List Turn), s.turns = .reset :: ts →
    step s = .next
      { State.boot s.cfg with reads := s.reads, env := s.env, host := s.host, hostDrawn := s.hostDrawn, turns := ts }

/-- R223: from reset, whatever the environment draws and whatever the host has waiting, the first tick's classifier micro-ops give no
event and leave both scores 0, and the sequencer stands at the render window. -/
def Obligations.FirstTickGivesNoEvent : Prop :=
  ∀ (c : Config) (e : Env) (qs : List HostReq) (ts : List Turn), configValid c = true →
    ∃ t, runSteps 6 { State.boot c with env := e, host := qs, turns := List.replicate 6 .sequencer ++ ts } = .next t ∧
      t.seqPc = 6 ∧ t.ev = 0 ∧ t.score.b0 = 0 ∧ t.score.b1 = 0

/-! ### Runs and ticks (40_sequencer.md R108) -/

/-- R109, R8: with no request waiting, the host's next move is one free value: nothing, and then the sequencer moves when no turn is
written down; or one request, which is served if it has a step now and waits otherwise. The form of the draw is the model's own
(log 25). -/
def Obligations.HostDecidesFreelyWhenNothingWaits : Prop :=
  ∀ s : State, s.host = [] →
    (s.turns = [] →
      let u := { s with hostDrawn := s.hostDrawn + 1 }
      match Config.freeHost s.hostDrawn with
      | none => step s = seqStep u
      | some q => step s = if hostAdmits s q then .next (hostServe u q) else seqStep { u with host := [q] }) ∧
    ∀ ts, s.turns = .host :: ts →
      let u := { s with hostDrawn := s.hostDrawn + 1, turns := ts }
      match Config.freeHost s.hostDrawn with
      | none => step s = .next u
      | some q => step s = .next (if hostAdmits s q then hostServe u q else { u with host := [q] })

/-- R108, R109: a machine that is neither faulted nor refused, and is validly configured, has a next state at every turn. -/
def Obligations.OnlyFaultsAndRefusalsHalt : Prop :=
  ∀ s : State, stopped s = none → ∃ t, step s = .next t

/-- R108, R102, R104: under every valid configuration there is a run from reset that is an infinite sequence of ticks: for every k from
1 on, some step of it ends tick k. The host of that run answers each render window. -/
def Obligations.EveryTickOfARunCanEnd : Prop :=
  ∀ c : Config, configValid c = true →
    ∃ r, IsRun r ∧ r 0 = State.boot c ∧ ∀ k, 1 ≤ k → ∃ n, EndOfTick r k n

/-- R108, R104: while a run is held at RWAIT, where the host never signals RENDER_DONE, no step ends a tick and the sequencer stays. -/
def Obligations.HeldRunEndsNoTick : Prop :=
  ∀ (r : Nat → State) (n : Nat), IsRun r → (r n).seqPc = 6 → (∀ m, n ≤ m → (r m).renderDone = false) →
    ∀ m, n ≤ m → (r m).seqPc = 6 ∧ endsTick (r m) (r (m + 1)) = false ∧ ticksEnded r m = ticksEnded r n

/-- R190, R171, R108: at every point of every run from reset, the trace holds 9649 words for each tick that has ended and the words of
the present tick's micro-ops so far. -/
def Obligations.TraceCountsTheTicks : Prop :=
  ∀ (r : Nat → State) (c : Config) (n : Nat), IsRun r → r 0 = State.boot c →
    (r n).trace.length = 9649 * ticksEnded r n + wordsBefore (r n).seqPc.val

/-- R107, R100, R103: when the sequencer moves at position 0, the time advance ADV adds is the next one the environment has written
down, which is used up; when none is written down, it is the next free value, which nothing constrains, and the counter goes on by
one. The form of the draw is the model's own (log 1), as is whose move a step is (log 2, 25). -/
def Obligations.TickDrawsOneTimeAdvance : Prop :=
  ∀ s u : State, stopped s = none → SequencerMovesFrom s u → s.seqPc = 0 →
    ∃ t, step s = .next t ∧
      (∀ d ds, s.env.dts = d :: ds →
        t.nowMs = s.nowMs + d.zeroExtend 32 ∧ (∀ b, (t.btn.get b).holdClk = (s.btn.get b).holdClk + d.zeroExtend 32) ∧
          t.env = { s.env with dts := ds }) ∧
      (s.env.dts = [] →
        t.nowMs = s.nowMs + (Config.freeDt s.env.drawn).zeroExtend 32 ∧
          (∀ b, (t.btn.get b).holdClk = (s.btn.get b).holdClk + (Config.freeDt s.env.drawn).zeroExtend 32) ∧
          t.env = { s.env with drawn := s.env.drawn + 1 })
end

