-- ==== Sys2Proof/Laws/State.lean ====
section
/-! SUPPORT. What each field reads after each one-field update: the field written reads the new value, every other one the old. -/

namespace Sys2Proof.Machine

/-! ### After `setBtn` -/

section

variable (s : State) (v : PerButton Channel)

@[simp] theorem State.setBtn_cfg : (s.setBtn v).cfg = s.cfg := rfl
@[simp] theorem State.setBtn_btn : (s.setBtn v).btn = v := rfl
@[simp] theorem State.setBtn_nowMs : (s.setBtn v).nowMs = s.nowMs := rfl
@[simp] theorem State.setBtn_ev : (s.setBtn v).ev = s.ev := rfl
@[simp] theorem State.setBtn_score : (s.setBtn v).score = s.score := rfl
@[simp] theorem State.setBtn_out : (s.setBtn v).out = s.out := rfl
@[simp] theorem State.setBtn_seqPc : (s.setBtn v).seqPc = s.seqPc := rfl
@[simp] theorem State.setBtn_fault : (s.setBtn v).fault = s.fault := rfl
@[simp] theorem State.setBtn_refusal : (s.setBtn v).refusal = s.refusal := rfl
@[simp] theorem State.setBtn_fb : (s.setBtn v).fb = s.fb := rfl
@[simp] theorem State.setBtn_traceRev : (s.setBtn v).traceRev = s.traceRev := rfl
@[simp] theorem State.setBtn_renderDone : (s.setBtn v).renderDone = s.renderDone := rfl
@[simp] theorem State.setBtn_reads : (s.setBtn v).reads = s.reads := rfl
@[simp] theorem State.setBtn_env : (s.setBtn v).env = s.env := rfl
@[simp] theorem State.setBtn_host : (s.setBtn v).host = s.host := rfl
@[simp] theorem State.setBtn_hostDrawn : (s.setBtn v).hostDrawn = s.hostDrawn := rfl
@[simp] theorem State.setBtn_turns : (s.setBtn v).turns = s.turns := rfl

end

/-! ### After `setNowMs` -/

section

variable (s : State) (v : Time)

@[simp] theorem State.setNowMs_cfg : (s.setNowMs v).cfg = s.cfg := rfl
@[simp] theorem State.setNowMs_btn : (s.setNowMs v).btn = s.btn := rfl
@[simp] theorem State.setNowMs_nowMs : (s.setNowMs v).nowMs = v := rfl
@[simp] theorem State.setNowMs_ev : (s.setNowMs v).ev = s.ev := rfl
@[simp] theorem State.setNowMs_score : (s.setNowMs v).score = s.score := rfl
@[simp] theorem State.setNowMs_out : (s.setNowMs v).out = s.out := rfl
@[simp] theorem State.setNowMs_seqPc : (s.setNowMs v).seqPc = s.seqPc := rfl
@[simp] theorem State.setNowMs_fault : (s.setNowMs v).fault = s.fault := rfl
@[simp] theorem State.setNowMs_refusal : (s.setNowMs v).refusal = s.refusal := rfl
@[simp] theorem State.setNowMs_fb : (s.setNowMs v).fb = s.fb := rfl
@[simp] theorem State.setNowMs_traceRev : (s.setNowMs v).traceRev = s.traceRev := rfl
@[simp] theorem State.setNowMs_renderDone : (s.setNowMs v).renderDone = s.renderDone := rfl
@[simp] theorem State.setNowMs_reads : (s.setNowMs v).reads = s.reads := rfl
@[simp] theorem State.setNowMs_env : (s.setNowMs v).env = s.env := rfl
@[simp] theorem State.setNowMs_host : (s.setNowMs v).host = s.host := rfl
@[simp] theorem State.setNowMs_hostDrawn : (s.setNowMs v).hostDrawn = s.hostDrawn := rfl
@[simp] theorem State.setNowMs_turns : (s.setNowMs v).turns = s.turns := rfl

end

/-! ### After `setEv` -/

section

variable (s : State) (v : BitVec 5)

@[simp] theorem State.setEv_cfg : (s.setEv v).cfg = s.cfg := rfl
@[simp] theorem State.setEv_btn : (s.setEv v).btn = s.btn := rfl
@[simp] theorem State.setEv_nowMs : (s.setEv v).nowMs = s.nowMs := rfl
@[simp] theorem State.setEv_ev : (s.setEv v).ev = v := rfl
@[simp] theorem State.setEv_score : (s.setEv v).score = s.score := rfl
@[simp] theorem State.setEv_out : (s.setEv v).out = s.out := rfl
@[simp] theorem State.setEv_seqPc : (s.setEv v).seqPc = s.seqPc := rfl
@[simp] theorem State.setEv_fault : (s.setEv v).fault = s.fault := rfl
@[simp] theorem State.setEv_refusal : (s.setEv v).refusal = s.refusal := rfl
@[simp] theorem State.setEv_fb : (s.setEv v).fb = s.fb := rfl
@[simp] theorem State.setEv_traceRev : (s.setEv v).traceRev = s.traceRev := rfl
@[simp] theorem State.setEv_renderDone : (s.setEv v).renderDone = s.renderDone := rfl
@[simp] theorem State.setEv_reads : (s.setEv v).reads = s.reads := rfl
@[simp] theorem State.setEv_env : (s.setEv v).env = s.env := rfl
@[simp] theorem State.setEv_host : (s.setEv v).host = s.host := rfl
@[simp] theorem State.setEv_hostDrawn : (s.setEv v).hostDrawn = s.hostDrawn := rfl
@[simp] theorem State.setEv_turns : (s.setEv v).turns = s.turns := rfl

end

/-! ### After `setScore` -/

section

variable (s : State) (v : PerButton Score)

@[simp] theorem State.setScore_cfg : (s.setScore v).cfg = s.cfg := rfl
@[simp] theorem State.setScore_btn : (s.setScore v).btn = s.btn := rfl
@[simp] theorem State.setScore_nowMs : (s.setScore v).nowMs = s.nowMs := rfl
@[simp] theorem State.setScore_ev : (s.setScore v).ev = s.ev := rfl
@[simp] theorem State.setScore_score : (s.setScore v).score = v := rfl
@[simp] theorem State.setScore_out : (s.setScore v).out = s.out := rfl
@[simp] theorem State.setScore_seqPc : (s.setScore v).seqPc = s.seqPc := rfl
@[simp] theorem State.setScore_fault : (s.setScore v).fault = s.fault := rfl
@[simp] theorem State.setScore_refusal : (s.setScore v).refusal = s.refusal := rfl
@[simp] theorem State.setScore_fb : (s.setScore v).fb = s.fb := rfl
@[simp] theorem State.setScore_traceRev : (s.setScore v).traceRev = s.traceRev := rfl
@[simp] theorem State.setScore_renderDone : (s.setScore v).renderDone = s.renderDone := rfl
@[simp] theorem State.setScore_reads : (s.setScore v).reads = s.reads := rfl
@[simp] theorem State.setScore_env : (s.setScore v).env = s.env := rfl
@[simp] theorem State.setScore_host : (s.setScore v).host = s.host := rfl
@[simp] theorem State.setScore_hostDrawn : (s.setScore v).hostDrawn = s.hostDrawn := rfl
@[simp] theorem State.setScore_turns : (s.setScore v).turns = s.turns := rfl

end

/-! ### After `setOut` -/

section

variable (s : State) (v : Bus)

@[simp] theorem State.setOut_cfg : (s.setOut v).cfg = s.cfg := rfl
@[simp] theorem State.setOut_btn : (s.setOut v).btn = s.btn := rfl
@[simp] theorem State.setOut_nowMs : (s.setOut v).nowMs = s.nowMs := rfl
@[simp] theorem State.setOut_ev : (s.setOut v).ev = s.ev := rfl
@[simp] theorem State.setOut_score : (s.setOut v).score = s.score := rfl
@[simp] theorem State.setOut_out : (s.setOut v).out = v := rfl
@[simp] theorem State.setOut_seqPc : (s.setOut v).seqPc = s.seqPc := rfl
@[simp] theorem State.setOut_fault : (s.setOut v).fault = s.fault := rfl
@[simp] theorem State.setOut_refusal : (s.setOut v).refusal = s.refusal := rfl
@[simp] theorem State.setOut_fb : (s.setOut v).fb = s.fb := rfl
@[simp] theorem State.setOut_traceRev : (s.setOut v).traceRev = s.traceRev := rfl
@[simp] theorem State.setOut_renderDone : (s.setOut v).renderDone = s.renderDone := rfl
@[simp] theorem State.setOut_reads : (s.setOut v).reads = s.reads := rfl
@[simp] theorem State.setOut_env : (s.setOut v).env = s.env := rfl
@[simp] theorem State.setOut_host : (s.setOut v).host = s.host := rfl
@[simp] theorem State.setOut_hostDrawn : (s.setOut v).hostDrawn = s.hostDrawn := rfl
@[simp] theorem State.setOut_turns : (s.setOut v).turns = s.turns := rfl

end

/-! ### After `setSeqPc` -/

section

variable (s : State) (v : Fin 3336)

@[simp] theorem State.setSeqPc_cfg : (s.setSeqPc v).cfg = s.cfg := rfl
@[simp] theorem State.setSeqPc_btn : (s.setSeqPc v).btn = s.btn := rfl
@[simp] theorem State.setSeqPc_nowMs : (s.setSeqPc v).nowMs = s.nowMs := rfl
@[simp] theorem State.setSeqPc_ev : (s.setSeqPc v).ev = s.ev := rfl
@[simp] theorem State.setSeqPc_score : (s.setSeqPc v).score = s.score := rfl
@[simp] theorem State.setSeqPc_out : (s.setSeqPc v).out = s.out := rfl
@[simp] theorem State.setSeqPc_seqPc : (s.setSeqPc v).seqPc = v := rfl
@[simp] theorem State.setSeqPc_fault : (s.setSeqPc v).fault = s.fault := rfl
@[simp] theorem State.setSeqPc_refusal : (s.setSeqPc v).refusal = s.refusal := rfl
@[simp] theorem State.setSeqPc_fb : (s.setSeqPc v).fb = s.fb := rfl
@[simp] theorem State.setSeqPc_traceRev : (s.setSeqPc v).traceRev = s.traceRev := rfl
@[simp] theorem State.setSeqPc_renderDone : (s.setSeqPc v).renderDone = s.renderDone := rfl
@[simp] theorem State.setSeqPc_reads : (s.setSeqPc v).reads = s.reads := rfl
@[simp] theorem State.setSeqPc_env : (s.setSeqPc v).env = s.env := rfl
@[simp] theorem State.setSeqPc_host : (s.setSeqPc v).host = s.host := rfl
@[simp] theorem State.setSeqPc_hostDrawn : (s.setSeqPc v).hostDrawn = s.hostDrawn := rfl
@[simp] theorem State.setSeqPc_turns : (s.setSeqPc v).turns = s.turns := rfl

end

/-! ### After `setFault` -/

section

variable (s : State) (v : Option FaultRecord)

@[simp] theorem State.setFault_cfg : (s.setFault v).cfg = s.cfg := rfl
@[simp] theorem State.setFault_btn : (s.setFault v).btn = s.btn := rfl
@[simp] theorem State.setFault_nowMs : (s.setFault v).nowMs = s.nowMs := rfl
@[simp] theorem State.setFault_ev : (s.setFault v).ev = s.ev := rfl
@[simp] theorem State.setFault_score : (s.setFault v).score = s.score := rfl
@[simp] theorem State.setFault_out : (s.setFault v).out = s.out := rfl
@[simp] theorem State.setFault_seqPc : (s.setFault v).seqPc = s.seqPc := rfl
@[simp] theorem State.setFault_fault : (s.setFault v).fault = v := rfl
@[simp] theorem State.setFault_refusal : (s.setFault v).refusal = s.refusal := rfl
@[simp] theorem State.setFault_fb : (s.setFault v).fb = s.fb := rfl
@[simp] theorem State.setFault_traceRev : (s.setFault v).traceRev = s.traceRev := rfl
@[simp] theorem State.setFault_renderDone : (s.setFault v).renderDone = s.renderDone := rfl
@[simp] theorem State.setFault_reads : (s.setFault v).reads = s.reads := rfl
@[simp] theorem State.setFault_env : (s.setFault v).env = s.env := rfl
@[simp] theorem State.setFault_host : (s.setFault v).host = s.host := rfl
@[simp] theorem State.setFault_hostDrawn : (s.setFault v).hostDrawn = s.hostDrawn := rfl
@[simp] theorem State.setFault_turns : (s.setFault v).turns = s.turns := rfl

end

/-! ### After `setRefusal` -/

section

variable (s : State) (v : Option Refusal)

@[simp] theorem State.setRefusal_cfg : (s.setRefusal v).cfg = s.cfg := rfl
@[simp] theorem State.setRefusal_btn : (s.setRefusal v).btn = s.btn := rfl
@[simp] theorem State.setRefusal_nowMs : (s.setRefusal v).nowMs = s.nowMs := rfl
@[simp] theorem State.setRefusal_ev : (s.setRefusal v).ev = s.ev := rfl
@[simp] theorem State.setRefusal_score : (s.setRefusal v).score = s.score := rfl
@[simp] theorem State.setRefusal_out : (s.setRefusal v).out = s.out := rfl
@[simp] theorem State.setRefusal_seqPc : (s.setRefusal v).seqPc = s.seqPc := rfl
@[simp] theorem State.setRefusal_fault : (s.setRefusal v).fault = s.fault := rfl
@[simp] theorem State.setRefusal_refusal : (s.setRefusal v).refusal = v := rfl
@[simp] theorem State.setRefusal_fb : (s.setRefusal v).fb = s.fb := rfl
@[simp] theorem State.setRefusal_traceRev : (s.setRefusal v).traceRev = s.traceRev := rfl
@[simp] theorem State.setRefusal_renderDone : (s.setRefusal v).renderDone = s.renderDone := rfl
@[simp] theorem State.setRefusal_reads : (s.setRefusal v).reads = s.reads := rfl
@[simp] theorem State.setRefusal_env : (s.setRefusal v).env = s.env := rfl
@[simp] theorem State.setRefusal_host : (s.setRefusal v).host = s.host := rfl
@[simp] theorem State.setRefusal_hostDrawn : (s.setRefusal v).hostDrawn = s.hostDrawn := rfl
@[simp] theorem State.setRefusal_turns : (s.setRefusal v).turns = s.turns := rfl

end

/-! ### After `setFb` -/

section

variable (s : State) (v : Memory)

@[simp] theorem State.setFb_cfg : (s.setFb v).cfg = s.cfg := rfl
@[simp] theorem State.setFb_btn : (s.setFb v).btn = s.btn := rfl
@[simp] theorem State.setFb_nowMs : (s.setFb v).nowMs = s.nowMs := rfl
@[simp] theorem State.setFb_ev : (s.setFb v).ev = s.ev := rfl
@[simp] theorem State.setFb_score : (s.setFb v).score = s.score := rfl
@[simp] theorem State.setFb_out : (s.setFb v).out = s.out := rfl
@[simp] theorem State.setFb_seqPc : (s.setFb v).seqPc = s.seqPc := rfl
@[simp] theorem State.setFb_fault : (s.setFb v).fault = s.fault := rfl
@[simp] theorem State.setFb_refusal : (s.setFb v).refusal = s.refusal := rfl
@[simp] theorem State.setFb_fb : (s.setFb v).fb = v := rfl
@[simp] theorem State.setFb_traceRev : (s.setFb v).traceRev = s.traceRev := rfl
@[simp] theorem State.setFb_renderDone : (s.setFb v).renderDone = s.renderDone := rfl
@[simp] theorem State.setFb_reads : (s.setFb v).reads = s.reads := rfl
@[simp] theorem State.setFb_env : (s.setFb v).env = s.env := rfl
@[simp] theorem State.setFb_host : (s.setFb v).host = s.host := rfl
@[simp] theorem State.setFb_hostDrawn : (s.setFb v).hostDrawn = s.hostDrawn := rfl
@[simp] theorem State.setFb_turns : (s.setFb v).turns = s.turns := rfl

end

/-! ### After `setTraceRev` -/

section

variable (s : State) (v : List Bus)

@[simp] theorem State.setTraceRev_cfg : (s.setTraceRev v).cfg = s.cfg := rfl
@[simp] theorem State.setTraceRev_btn : (s.setTraceRev v).btn = s.btn := rfl
@[simp] theorem State.setTraceRev_nowMs : (s.setTraceRev v).nowMs = s.nowMs := rfl
@[simp] theorem State.setTraceRev_ev : (s.setTraceRev v).ev = s.ev := rfl
@[simp] theorem State.setTraceRev_score : (s.setTraceRev v).score = s.score := rfl
@[simp] theorem State.setTraceRev_out : (s.setTraceRev v).out = s.out := rfl
@[simp] theorem State.setTraceRev_seqPc : (s.setTraceRev v).seqPc = s.seqPc := rfl
@[simp] theorem State.setTraceRev_fault : (s.setTraceRev v).fault = s.fault := rfl
@[simp] theorem State.setTraceRev_refusal : (s.setTraceRev v).refusal = s.refusal := rfl
@[simp] theorem State.setTraceRev_fb : (s.setTraceRev v).fb = s.fb := rfl
@[simp] theorem State.setTraceRev_traceRev : (s.setTraceRev v).traceRev = v := rfl
@[simp] theorem State.setTraceRev_renderDone : (s.setTraceRev v).renderDone = s.renderDone := rfl
@[simp] theorem State.setTraceRev_reads : (s.setTraceRev v).reads = s.reads := rfl
@[simp] theorem State.setTraceRev_env : (s.setTraceRev v).env = s.env := rfl
@[simp] theorem State.setTraceRev_host : (s.setTraceRev v).host = s.host := rfl
@[simp] theorem State.setTraceRev_hostDrawn : (s.setTraceRev v).hostDrawn = s.hostDrawn := rfl
@[simp] theorem State.setTraceRev_turns : (s.setTraceRev v).turns = s.turns := rfl

end

/-! ### After `setRenderDone` -/

section

variable (s : State) (v : Bool)

@[simp] theorem State.setRenderDone_cfg : (s.setRenderDone v).cfg = s.cfg := rfl
@[simp] theorem State.setRenderDone_btn : (s.setRenderDone v).btn = s.btn := rfl
@[simp] theorem State.setRenderDone_nowMs : (s.setRenderDone v).nowMs = s.nowMs := rfl
@[simp] theorem State.setRenderDone_ev : (s.setRenderDone v).ev = s.ev := rfl
@[simp] theorem State.setRenderDone_score : (s.setRenderDone v).score = s.score := rfl
@[simp] theorem State.setRenderDone_out : (s.setRenderDone v).out = s.out := rfl
@[simp] theorem State.setRenderDone_seqPc : (s.setRenderDone v).seqPc = s.seqPc := rfl
@[simp] theorem State.setRenderDone_fault : (s.setRenderDone v).fault = s.fault := rfl
@[simp] theorem State.setRenderDone_refusal : (s.setRenderDone v).refusal = s.refusal := rfl
@[simp] theorem State.setRenderDone_fb : (s.setRenderDone v).fb = s.fb := rfl
@[simp] theorem State.setRenderDone_traceRev : (s.setRenderDone v).traceRev = s.traceRev := rfl
@[simp] theorem State.setRenderDone_renderDone : (s.setRenderDone v).renderDone = v := rfl
@[simp] theorem State.setRenderDone_reads : (s.setRenderDone v).reads = s.reads := rfl
@[simp] theorem State.setRenderDone_env : (s.setRenderDone v).env = s.env := rfl
@[simp] theorem State.setRenderDone_host : (s.setRenderDone v).host = s.host := rfl
@[simp] theorem State.setRenderDone_hostDrawn : (s.setRenderDone v).hostDrawn = s.hostDrawn := rfl
@[simp] theorem State.setRenderDone_turns : (s.setRenderDone v).turns = s.turns := rfl

end

/-! ### After `setReads` -/

section

variable (s : State) (v : List (Button × Score))

@[simp] theorem State.setReads_cfg : (s.setReads v).cfg = s.cfg := rfl
@[simp] theorem State.setReads_btn : (s.setReads v).btn = s.btn := rfl
@[simp] theorem State.setReads_nowMs : (s.setReads v).nowMs = s.nowMs := rfl
@[simp] theorem State.setReads_ev : (s.setReads v).ev = s.ev := rfl
@[simp] theorem State.setReads_score : (s.setReads v).score = s.score := rfl
@[simp] theorem State.setReads_out : (s.setReads v).out = s.out := rfl
@[simp] theorem State.setReads_seqPc : (s.setReads v).seqPc = s.seqPc := rfl
@[simp] theorem State.setReads_fault : (s.setReads v).fault = s.fault := rfl
@[simp] theorem State.setReads_refusal : (s.setReads v).refusal = s.refusal := rfl
@[simp] theorem State.setReads_fb : (s.setReads v).fb = s.fb := rfl
@[simp] theorem State.setReads_traceRev : (s.setReads v).traceRev = s.traceRev := rfl
@[simp] theorem State.setReads_renderDone : (s.setReads v).renderDone = s.renderDone := rfl
@[simp] theorem State.setReads_reads : (s.setReads v).reads = v := rfl
@[simp] theorem State.setReads_env : (s.setReads v).env = s.env := rfl
@[simp] theorem State.setReads_host : (s.setReads v).host = s.host := rfl
@[simp] theorem State.setReads_hostDrawn : (s.setReads v).hostDrawn = s.hostDrawn := rfl
@[simp] theorem State.setReads_turns : (s.setReads v).turns = s.turns := rfl

end

/-! ### After `setEnv` -/

section

variable (s : State) (v : Env)

@[simp] theorem State.setEnv_cfg : (s.setEnv v).cfg = s.cfg := rfl
@[simp] theorem State.setEnv_btn : (s.setEnv v).btn = s.btn := rfl
@[simp] theorem State.setEnv_nowMs : (s.setEnv v).nowMs = s.nowMs := rfl
@[simp] theorem State.setEnv_ev : (s.setEnv v).ev = s.ev := rfl
@[simp] theorem State.setEnv_score : (s.setEnv v).score = s.score := rfl
@[simp] theorem State.setEnv_out : (s.setEnv v).out = s.out := rfl
@[simp] theorem State.setEnv_seqPc : (s.setEnv v).seqPc = s.seqPc := rfl
@[simp] theorem State.setEnv_fault : (s.setEnv v).fault = s.fault := rfl
@[simp] theorem State.setEnv_refusal : (s.setEnv v).refusal = s.refusal := rfl
@[simp] theorem State.setEnv_fb : (s.setEnv v).fb = s.fb := rfl
@[simp] theorem State.setEnv_traceRev : (s.setEnv v).traceRev = s.traceRev := rfl
@[simp] theorem State.setEnv_renderDone : (s.setEnv v).renderDone = s.renderDone := rfl
@[simp] theorem State.setEnv_reads : (s.setEnv v).reads = s.reads := rfl
@[simp] theorem State.setEnv_env : (s.setEnv v).env = v := rfl
@[simp] theorem State.setEnv_host : (s.setEnv v).host = s.host := rfl
@[simp] theorem State.setEnv_hostDrawn : (s.setEnv v).hostDrawn = s.hostDrawn := rfl
@[simp] theorem State.setEnv_turns : (s.setEnv v).turns = s.turns := rfl

end

/-! ### After `setHost` -/

section

variable (s : State) (v : List HostReq)

@[simp] theorem State.setHost_cfg : (s.setHost v).cfg = s.cfg := rfl
@[simp] theorem State.setHost_btn : (s.setHost v).btn = s.btn := rfl
@[simp] theorem State.setHost_nowMs : (s.setHost v).nowMs = s.nowMs := rfl
@[simp] theorem State.setHost_ev : (s.setHost v).ev = s.ev := rfl
@[simp] theorem State.setHost_score : (s.setHost v).score = s.score := rfl
@[simp] theorem State.setHost_out : (s.setHost v).out = s.out := rfl
@[simp] theorem State.setHost_seqPc : (s.setHost v).seqPc = s.seqPc := rfl
@[simp] theorem State.setHost_fault : (s.setHost v).fault = s.fault := rfl
@[simp] theorem State.setHost_refusal : (s.setHost v).refusal = s.refusal := rfl
@[simp] theorem State.setHost_fb : (s.setHost v).fb = s.fb := rfl
@[simp] theorem State.setHost_traceRev : (s.setHost v).traceRev = s.traceRev := rfl
@[simp] theorem State.setHost_renderDone : (s.setHost v).renderDone = s.renderDone := rfl
@[simp] theorem State.setHost_reads : (s.setHost v).reads = s.reads := rfl
@[simp] theorem State.setHost_env : (s.setHost v).env = s.env := rfl
@[simp] theorem State.setHost_host : (s.setHost v).host = v := rfl
@[simp] theorem State.setHost_hostDrawn : (s.setHost v).hostDrawn = s.hostDrawn := rfl
@[simp] theorem State.setHost_turns : (s.setHost v).turns = s.turns := rfl

end

/-! ### After `setHostDrawn` -/

section

variable (s : State) (v : Nat)

@[simp] theorem State.setHostDrawn_cfg : (s.setHostDrawn v).cfg = s.cfg := rfl
@[simp] theorem State.setHostDrawn_btn : (s.setHostDrawn v).btn = s.btn := rfl
@[simp] theorem State.setHostDrawn_nowMs : (s.setHostDrawn v).nowMs = s.nowMs := rfl
@[simp] theorem State.setHostDrawn_ev : (s.setHostDrawn v).ev = s.ev := rfl
@[simp] theorem State.setHostDrawn_score : (s.setHostDrawn v).score = s.score := rfl
@[simp] theorem State.setHostDrawn_out : (s.setHostDrawn v).out = s.out := rfl
@[simp] theorem State.setHostDrawn_seqPc : (s.setHostDrawn v).seqPc = s.seqPc := rfl
@[simp] theorem State.setHostDrawn_fault : (s.setHostDrawn v).fault = s.fault := rfl
@[simp] theorem State.setHostDrawn_refusal : (s.setHostDrawn v).refusal = s.refusal := rfl
@[simp] theorem State.setHostDrawn_fb : (s.setHostDrawn v).fb = s.fb := rfl
@[simp] theorem State.setHostDrawn_traceRev : (s.setHostDrawn v).traceRev = s.traceRev := rfl
@[simp] theorem State.setHostDrawn_renderDone : (s.setHostDrawn v).renderDone = s.renderDone := rfl
@[simp] theorem State.setHostDrawn_reads : (s.setHostDrawn v).reads = s.reads := rfl
@[simp] theorem State.setHostDrawn_env : (s.setHostDrawn v).env = s.env := rfl
@[simp] theorem State.setHostDrawn_host : (s.setHostDrawn v).host = s.host := rfl
@[simp] theorem State.setHostDrawn_hostDrawn : (s.setHostDrawn v).hostDrawn = v := rfl
@[simp] theorem State.setHostDrawn_turns : (s.setHostDrawn v).turns = s.turns := rfl

end

/-! ### After `setTurns` -/

section

variable (s : State) (v : List Turn)

@[simp] theorem State.setTurns_cfg : (s.setTurns v).cfg = s.cfg := rfl
@[simp] theorem State.setTurns_btn : (s.setTurns v).btn = s.btn := rfl
@[simp] theorem State.setTurns_nowMs : (s.setTurns v).nowMs = s.nowMs := rfl
@[simp] theorem State.setTurns_ev : (s.setTurns v).ev = s.ev := rfl
@[simp] theorem State.setTurns_score : (s.setTurns v).score = s.score := rfl
@[simp] theorem State.setTurns_out : (s.setTurns v).out = s.out := rfl
@[simp] theorem State.setTurns_seqPc : (s.setTurns v).seqPc = s.seqPc := rfl
@[simp] theorem State.setTurns_fault : (s.setTurns v).fault = s.fault := rfl
@[simp] theorem State.setTurns_refusal : (s.setTurns v).refusal = s.refusal := rfl
@[simp] theorem State.setTurns_fb : (s.setTurns v).fb = s.fb := rfl
@[simp] theorem State.setTurns_traceRev : (s.setTurns v).traceRev = s.traceRev := rfl
@[simp] theorem State.setTurns_renderDone : (s.setTurns v).renderDone = s.renderDone := rfl
@[simp] theorem State.setTurns_reads : (s.setTurns v).reads = s.reads := rfl
@[simp] theorem State.setTurns_env : (s.setTurns v).env = s.env := rfl
@[simp] theorem State.setTurns_host : (s.setTurns v).host = s.host := rfl
@[simp] theorem State.setTurns_hostDrawn : (s.setTurns v).hostDrawn = s.hostDrawn := rfl
@[simp] theorem State.setTurns_turns : (s.setTurns v).turns = v := rfl

end

end Sys2Proof.Machine
end

