-- ==== Sys2Proof/Laws/Memory.lean ====
section
/-! SUPPORT. The frame buffer's cells: a read after a write, and that a write keeps the canonical form. -/

namespace Sys2Proof.Machine

@[simp] theorem Memory.read_nil (a : Nat) : Memory.read [] a = 0#8 := rfl

theorem Memory.read_cons (k : Nat) (v : BitVec 8) (m : Memory) (a : Nat) :
    Memory.read ((k, v) :: m) a = if k = a then v else Memory.read m a := rfl

/-- An index below every listed one reads as unlisted. -/
theorem Memory.read_of_lt {m : Memory} {a : Nat} (h : ∀ c ∈ m, a < c.1) : Memory.read m a = 0#8 := by
  induction m with
  | nil => rfl
  | cons c m ih =>
    have hc := h c (by simp)
    rw [Memory.read_cons, if_neg (by omega), ih fun d hd => h d (by simp [hd])]

theorem Memory.read_consCell_same {m : Memory} {a : Nat} (v : BitVec 8) (h : ∀ c ∈ m, a < c.1) :
    Memory.read (Memory.consCell a v m) a = v := by
  unfold Memory.consCell Memory.unlisted
  split
  · rename_i hv; rw [hv, Memory.read_of_lt h]
  · simp [Memory.read_cons]

theorem Memory.read_consCell_other {m : Memory} {a b : Nat} (v : BitVec 8) (h : a ≠ b) :
    Memory.read (Memory.consCell a v m) b = Memory.read m b := by
  unfold Memory.consCell
  split
  · rfl
  · rw [Memory.read_cons, if_neg h]

/-- A read after a write to the same index gives the value written. -/
theorem Memory.read_write_same {m : Memory} (hm : m.Pairwise fun x y => x.1 < y.1) (a : Nat) (v : BitVec 8) :
    Memory.read (Memory.write m a v) a = v := by
  induction m with
  | nil => exact Memory.read_consCell_same v (by simp)
  | cons c m ih =>
    obtain ⟨k, w⟩ := c
    obtain ⟨hk, hm⟩ := List.pairwise_cons.mp hm
    unfold Memory.write
    split
    · rename_i h
      refine Memory.read_consCell_same v fun d hd => ?_
      rcases List.mem_cons.mp hd with rfl | hd
      · exact h
      · exact Nat.lt_trans h (hk d hd)
    · split
      · rename_i h; subst h; exact Memory.read_consCell_same v hk
      · rename_i h; rw [Memory.read_cons, if_neg fun e => h e.symm, ih hm]

/-- A write leaves every other index alone. -/
theorem Memory.read_write_other (m : Memory) {a b : Nat} (v : BitVec 8) (h : a ≠ b) :
    Memory.read (Memory.write m a v) b = Memory.read m b := by
  induction m with
  | nil => exact Memory.read_consCell_other v h
  | cons c m ih =>
    obtain ⟨k, w⟩ := c
    unfold Memory.write
    split
    · exact Memory.read_consCell_other v h
    · split
      · rename_i e
        rw [Memory.read_consCell_other v h, Memory.read_cons, if_neg (by omega)]
      · rw [Memory.read_cons, Memory.read_cons, ih]

theorem Memory.mem_consCell {a : Nat} {v : BitVec 8} {m : Memory} {c : Host.Cell} (h : c ∈ Memory.consCell a v m) :
    c = (a, v) ∧ v ≠ 0#8 ∨ c ∈ m := by
  unfold Memory.consCell Memory.unlisted at h
  split at h
  · exact .inr h
  · rcases List.mem_cons.mp h with rfl | h
    · exact .inl ⟨rfl, ‹_›⟩
    · exact .inr h

/-- What a write can leave in the list. -/
theorem Memory.mem_write {m : Memory} {a : Nat} {v : BitVec 8} {c : Host.Cell} (h : c ∈ Memory.write m a v) :
    c = (a, v) ∧ v ≠ 0#8 ∨ c ∈ m := by
  induction m with
  | nil => exact Memory.mem_consCell h
  | cons d m ih =>
    obtain ⟨k, w⟩ := d
    unfold Memory.write at h
    split at h
    · exact Memory.mem_consCell h
    · split at h
      · exact (Memory.mem_consCell h).imp_right (List.mem_cons_of_mem _)
      · rcases List.mem_cons.mp h with rfl | h
        · exact .inr (by simp)
        · exact (ih h).imp_right (List.mem_cons_of_mem _)

theorem Memory.consCell_sorted {a : Nat} (v : BitVec 8) {m : Memory} (hm : m.Pairwise fun x y => x.1 < y.1)
    (h : ∀ c ∈ m, a < c.1) : (Memory.consCell a v m).Pairwise fun x y => x.1 < y.1 := by
  unfold Memory.consCell
  split
  · exact hm
  · exact List.pairwise_cons.mpr ⟨h, hm⟩

theorem Memory.write_sorted {m : Memory} (hm : m.Pairwise fun x y => x.1 < y.1) (a : Nat) (v : BitVec 8) :
    (Memory.write m a v).Pairwise fun x y => x.1 < y.1 := by
  induction m with
  | nil => exact Memory.consCell_sorted v List.Pairwise.nil (by simp)
  | cons c m ih =>
    obtain ⟨k, w⟩ := c
    obtain ⟨hk, hm'⟩ := List.pairwise_cons.mp hm
    unfold Memory.write
    split
    · rename_i h
      refine Memory.consCell_sorted v hm fun d hd => ?_
      rcases List.mem_cons.mp hd with rfl | hd
      · exact h
      · exact Nat.lt_trans h (hk d hd)
    · split
      · rename_i h; subst h; exact Memory.consCell_sorted v hm' hk
      · refine List.pairwise_cons.mpr ⟨fun d hd => ?_, ih hm'⟩
        rcases Memory.mem_write hd with ⟨rfl, _⟩ | hd
        · show k < a; omega
        · exact hk d hd

/-- A write of a bit inside the frame buffer keeps the canonical form. -/
theorem Memory.write_wf {m : Memory} (hm : Memory.wf m) {a : Nat} (ha : a < fbBits) (v : Bool) :
    Memory.wf (Memory.write m a (fbCell v)) := by
  refine ⟨Memory.write_sorted hm.1 a _, fun c hc => ?_⟩
  rcases Memory.mem_write hc with ⟨rfl, hv⟩ | hc
  · cases v
    · exact absurd rfl hv
    · exact ⟨ha, rfl⟩
  · exact hm.2 c hc

theorem fbIndex_lt {ch r c : Nat} (hch : ch < 3) (hr : r < 32) (hc : c < 64) : fbIndex ch r c < fbBits := by
  simp only [fbIndex, fbBits, Config.nch, Config.lrows, Config.cols]; omega

/-- Inside the frame buffer, different triples have different indices. -/
theorem fbIndex_inj {ch r c ch' r' c' : Nat} (hr : r < 32) (hc : c < 64) (hr' : r' < 32) (hc' : c' < 64)
    (h : fbIndex ch r c = fbIndex ch' r' c') : ch = ch' ∧ r = r' ∧ c = c' := by
  simp only [fbIndex, Config.lrows, Config.cols] at h; omega

theorem fbCell_bit (v : Bool) : (fbCell v).getLsbD 0 = v := by cases v <;> rfl

/-- Reading back the bit just stored. -/
theorem State.fbRead_fbStore_same {s : State} (h : Memory.wf s.fb) (ch r c : Nat) (v : Bool) :
    (s.fbStore ch r c v).fbRead ch r c = v := by
  simp only [State.fbRead, State.fbStore, State.setFb_fb, Memory.read_write_same h.1, fbCell_bit]

/-- A store changes no other cell. -/
theorem State.read_fbStore_other (s : State) (ch r c : Nat) (v : Bool) {a : Nat} (h : fbIndex ch r c ≠ a) :
    Memory.read (s.fbStore ch r c v).fb a = Memory.read s.fb a := Memory.read_write_other s.fb _ h

theorem State.fbStore_wf {s : State} (h : Memory.wf s.fb) {ch r c : Nat} (hch : ch < 3) (hr : r < 32) (hc : c < 64)
    (v : Bool) : Memory.wf (s.fbStore ch r c v).fb := Memory.write_wf h (fbIndex_lt hch hr hc) v

end Sys2Proof.Machine
end

