-- ==== Sys2Proof/Laws/Ops.lean ====
section
/-! SUPPORT. One lemma for each shared operation over registers, the trace, the environment's draws, stopping and reset. -/

namespace Sys2Proof.Machine

/-! ### One value per button -/

@[simp] theorem PerButton.get_set_same {α : Type} (v : PerButton α) (b : Button) (x : α) : (v.set b x).get b = x := by
  cases b <;> rfl

theorem PerButton.get_set_other {α : Type} (v : PerButton α) {b c : Button} (x : α) (h : c ≠ b) :
    (v.set b x).get c = v.get c := by
  cases b <;> cases c <;> first | rfl | exact absurd rfl h

@[simp] theorem PerButton.get_map {α β : Type} (f : α → β) (v : PerButton α) (b : Button) :
    (v.map f).get b = f (v.get b) := by
  cases b <;> rfl

theorem PerButton.ext_get {α : Type} {v w : PerButton α} (h : ∀ b, v.get b = w.get b) : v = w := by
  have h0 := h .b0
  have h1 := h .b1
  cases v; cases w
  simp_all [PerButton.get]

/-! ### The event register -/

@[simp] theorem evReset_evWord (r : Bool) (d i : PerButton Bool) : evReset (evWord r d i) = r := by
  obtain ⟨d0, d1⟩ := d; obtain ⟨i0, i1⟩ := i
  revert r d0 d1 i0 i1; decide

@[simp] theorem evDec_evWord (r : Bool) (d i : PerButton Bool) (b : Button) : evDec (evWord r d i) b = d.get b := by
  obtain ⟨d0, d1⟩ := d; obtain ⟨i0, i1⟩ := i
  cases b <;> revert r d0 d1 i0 i1 <;> decide

@[simp] theorem evInc_evWord (r : Bool) (d i : PerButton Bool) (b : Button) : evInc (evWord r d i) b = i.get b := by
  obtain ⟨d0, d1⟩ := d; obtain ⟨i0, i1⟩ := i
  cases b <;> revert r d0 d1 i0 i1 <;> decide

@[simp] theorem noButton_get (b : Button) : noButton.get b = false := by cases b <;> rfl

/-! ### The output register and the trace -/

@[simp] theorem State.emit_traceRev (s : State) : s.emit.traceRev = s.out :: s.traceRev := rfl
@[simp] theorem State.emit_out (s : State) : s.emit.out = s.out := rfl

/-- `emit_OUT` appends one word to the trace. -/
@[simp] theorem State.emit_trace (s : State) : s.emit.trace = s.trace ++ [s.out] := by simp [State.trace]

/-- `drive` is an update of the two panel fields and of nothing else. -/
theorem State.drive_eq (s : State) (o : Bus) : s.drive o = { s with out := o, traceRev := o :: s.traceRev } := rfl

@[simp] theorem State.drive_out (s : State) (o : Bus) : (s.drive o).out = o := rfl
@[simp] theorem State.drive_traceRev (s : State) (o : Bus) : (s.drive o).traceRev = o :: s.traceRev := rfl
@[simp] theorem State.drive_trace (s : State) (o : Bus) : (s.drive o).trace = s.trace ++ [o] := by simp [State.trace]

/-- SHIFT's three words (43_scanout.md R172). -/
theorem State.clockOut_eq (s : State) (o : Bus) :
    s.clockOut o =
      { s with
        out := { o with clk := false }
        traceRev := { o with clk := false } :: { o with clk := true } :: o :: s.traceRev } := rfl

@[simp] theorem State.clockOut_trace (s : State) (o : Bus) :
    (s.clockOut o).trace = s.trace ++ [o, { o with clk := true }, { o with clk := false }] := by
  simp [State.clockOut]

/-- The bit of each line in the bus word (30_encoding.md R90). -/
theorem Bus.word_bits (o : Bus) :
    o.word.getLsbD 0 = o.clk ∧ o.word.getLsbD 1 = o.lat ∧ o.word.getLsbD 2 = o.oeN ∧ o.word.getLsbD 3 = o.r1 ∧
      o.word.getLsbD 4 = o.r2 ∧ o.word.getLsbD 5 = o.g1 ∧ o.word.getLsbD 6 = o.g2 ∧ o.word.getLsbD 7 = o.b1 ∧
      o.word.getLsbD 8 = o.b2 := by
  unfold Bus.word
  refine ⟨?_, ?_, ?_, ?_, ?_, ?_, ?_, ?_, ?_⟩ <;>
    simp only [BitVec.getLsbD_append, BitVec.getLsbD_ofBool] <;> simp

/-! ### The environment's draws -/

/-- A level draw changes only the environment. -/
theorem drawLevel_state (b : Button) (s : State) : (drawLevel b s).2 = s.setEnv (drawLevel b s).2.env := by
  unfold drawLevel; split <;> rfl

/-- A level written down for button b is the one drawn, and it is used up. -/
theorem drawLevel_cons {b : Button} {s : State} {l : Bool} {ls : List Bool} (h : s.env.levels.get b = l :: ls) :
    drawLevel b s = (l, s.setEnv { s.env with levels := s.env.levels.set b ls }) := by
  unfold drawLevel; rw [h]

/-- With no level written down for button b, the one drawn is the next free value. -/
theorem drawLevel_nil {b : Button} {s : State} (h : s.env.levels.get b = []) :
    drawLevel b s = (Config.freeLevel s.env.drawn, s.setEnv { s.env with drawn := s.env.drawn + 1 }) := by
  unfold drawLevel; rw [h]

/-- A time draw changes only the environment. -/
theorem drawDt_state (s : State) : (drawDt s).2 = s.setEnv (drawDt s).2.env := by
  unfold drawDt; split <;> rfl

/-- A time advance written down is the one drawn, and it is used up. -/
theorem drawDt_cons {s : State} {d : Dt} {ds : List Dt} (h : s.env.dts = d :: ds) :
    drawDt s = (d, s.setEnv { s.env with dts := ds }) := by
  unfold drawDt; rw [h]

/-- With no time advance written down, the one drawn is the next free value. -/
theorem drawDt_nil {s : State} (h : s.env.dts = []) :
    drawDt s = (Config.freeDt s.env.drawn, s.setEnv { s.env with drawn := s.env.drawn + 1 }) := by
  unfold drawDt; rw [h]

/-! ### Stopping -/

theorem State.raise_eq (s : State) (r : Fault) (i : Instr) :
    s.raise r i = { s with fault := some { reason := r, word := encode i } } := rfl

theorem State.refuse_eq (s : State) (r : Refusal) : s.refuse r = { s with refusal := some (s.refusal.getD r) } := rfl

/-- A machine has a further step exactly when it is not faulted, not refused and validly configured. -/
theorem stopped_eq_none {s : State} :
    stopped s = none ↔ s.fault = none ∧ s.refusal = none ∧ configValid s.cfg = true := by
  unfold stopped
  cases s.fault <;> cases s.refusal <;> simp

/-- Stopping depends on the fault, the refusal and the configuration only. -/
theorem stopped_congr {s t : State} (hf : t.fault = s.fault) (hr : t.refusal = s.refusal) (hc : t.cfg = s.cfg) :
    stopped t = stopped s := by
  unfold stopped; rw [hf, hr, hc]

/-- A stopped machine answers its fault or its refusal, never a next state. -/
theorem stopped_ne_next {s t : State} : stopped s ≠ some (.next t) := by
  unfold stopped
  cases s.fault <;> cases s.refusal <;> simp

theorem halted_iff {s : State} : halted s = true ↔ stopped s ≠ none := by
  simp [halted, Option.isSome_iff_ne_none]

/-- 00_scope.md R7, as a proposition. -/
theorem configValid_iff {c : Config} :
    configValid c = true ↔ c.tDebounce < c.tDec ∧ c.tDec < c.tReset ∧ c.tReset < 2 ^ 32 ∧ c.scoreMax < 255 := by
  have fixed : Config.lrows = 2 * Config.prows ∧ Config.prows = 2 ^ Config.addrW := by decide
  simp only [configValid, Bool.and_eq_true, decide_eq_true_eq, fixed, and_assoc, and_true]
  rfl

/-! ### Reset -/

/-- What a reset leaves of the state before it: the configuration and the other agents' own data. -/
theorem State.applyReset_eq (s : State) :
    s.applyReset =
      { State.reset with
        cfg := s.cfg
        refusal := if configValid s.cfg then none else some .configInvalid
        reads := s.reads
        env := s.env
        host := s.host
        hostDrawn := s.hostDrawn
        turns := s.turns } := rfl

end Sys2Proof.Machine
end

