-- ==== Sys2Proof/Laws/Exec.lean ====
section
/-! SUPPORT. What each micro-op's meaning does, as an equation of states, and what none of them touches. -/

namespace Sys2Proof.Machine

/-- SHIFT with a channel code that names a channel. -/
theorem execShift_of_chan {ch : BitVec 2} {c : Chan} (h : chanOf ch = some c) (p : BitVec 4) (col : BitVec 6) (s : State) :
    execShift ch p col s = .next (s.clockOut (shiftOut s c p col)) := by
  unfold execShift; rw [h]

/-- A channel code names a channel exactly when it is not 3 (30_encoding.md R83). -/
theorem chanOf_isSome {ch : BitVec 2} : (chanOf ch).isSome = true ↔ ch ≠ 3#2 := by
  revert ch; decide

/-- The code of the channel a code names is that code. -/
theorem chanCode_of_chan {ch : BitVec 2} {c : Chan} (h : chanOf ch = some c) : chanCode c = ch.toNat := by
  revert h; revert ch; cases c <;> decide

theorem execLatch_blank {s : State} (h : s.out.oeN = true) :
    execLatch s = .next ((s.drive { s.out with lat := true }).drive { s.out with lat := false }) := by
  unfold execLatch; rw [if_pos h]

theorem execLatch_enabled {s : State} (h : s.out.oeN = false) : execLatch s = .next (s.raise .hzLatchWhileEnabled .latch) := by
  unfold execLatch; rw [if_neg (by simp [h])]

theorem execSetaddr_blank {s : State} (h : s.out.oeN = true) (p : BitVec 4) :
    execSetaddr p s = .next (s.drive { s.out with a := p }) := by
  unfold execSetaddr; rw [if_pos h]

theorem execSetaddr_enabled {s : State} (h : s.out.oeN = false) (p : BitVec 4) :
    execSetaddr p s = .next (s.raise .hzAddrWhileEnabled (.setaddr p)) := by
  unfold execSetaddr; rw [if_neg (by simp [h])]

/-- SMP in terms of the level it draws: only the environment and button b's record change. -/
theorem execSmp_eq (b : Button) (s : State) :
    execSmp b s = .next
      ((s.setEnv (drawLevel b s).2.env).setBtn (s.btn.set b ((s.btn.get b).sampled s.nowMs (drawLevel b s).1))) := by
  unfold execSmp drawLevel
  split <;> rfl

/-- Doing nothing or doing `f`, a projection that `f` keeps is kept. -/
theorem whenEvent_keeps {α : Type} (π : State → α) {f : State → State} (hf : ∀ s, π (f s) = π s) (bit : Bool) (s : State) :
    π (whenEvent bit f s) = π s := by
  cases bit <;> simp [whenEvent, hf]

/-- APPLY changes nothing but the scores. -/
theorem State.applyEvents_eq (s : State) : s.applyEvents = s.setScore s.applyEvents.score := by
  unfold State.applyEvents
  cases evReset s.ev <;> cases evDec s.ev .b0 <;> cases evDec s.ev .b1 <;> cases evInc s.ev .b0 <;> cases evInc s.ev .b1 <;>
    rfl

/-- GUARD changes nothing but the scores. -/
theorem execGuard_eq (s : State) :
    execGuard s = .next (s.setScore (if scoreOutOfRange s.cfg s.score then { b0 := 0, b1 := 0 } else s.score)) := by
  unfold execGuard State.clearScores
  split <;> rfl

/-- The configuration, the sequencer position, the frame buffer, and what the host and the harness have in hand are the same. -/
structure Untouched (s t : State) : Prop where
  cfg : t.cfg = s.cfg
  seqPc : t.seqPc = s.seqPc
  fb : t.fb = s.fb
  reads : t.reads = s.reads
  host : t.host = s.host
  hostDrawn : t.hostDrawn = s.hostDrawn
  turns : t.turns = s.turns

theorem Untouched.drive {s t : State} (h : Untouched s t) (o : Bus) : Untouched s (t.drive o) :=
  ⟨h.cfg, h.seqPc, h.fb, h.reads, h.host, h.hostDrawn, h.turns⟩

theorem Untouched.setScore {s t : State} (h : Untouched s t) (v : PerButton Score) : Untouched s (t.setScore v) :=
  ⟨h.cfg, h.seqPc, h.fb, h.reads, h.host, h.hostDrawn, h.turns⟩

theorem Untouched.setBtn {s t : State} (h : Untouched s t) (v : PerButton Channel) : Untouched s (t.setBtn v) :=
  ⟨h.cfg, h.seqPc, h.fb, h.reads, h.host, h.hostDrawn, h.turns⟩

theorem Untouched.setEv {s t : State} (h : Untouched s t) (v : BitVec 5) : Untouched s (t.setEv v) :=
  ⟨h.cfg, h.seqPc, h.fb, h.reads, h.host, h.hostDrawn, h.turns⟩

theorem Untouched.setEnv {s t : State} (h : Untouched s t) (v : Env) : Untouched s (t.setEnv v) :=
  ⟨h.cfg, h.seqPc, h.fb, h.reads, h.host, h.hostDrawn, h.turns⟩

theorem Untouched.setNowMs {s t : State} (h : Untouched s t) (v : Time) : Untouched s (t.setNowMs v) :=
  ⟨h.cfg, h.seqPc, h.fb, h.reads, h.host, h.hostDrawn, h.turns⟩

theorem Untouched.setRenderDone {s t : State} (h : Untouched s t) (v : Bool) : Untouched s (t.setRenderDone v) :=
  ⟨h.cfg, h.seqPc, h.fb, h.reads, h.host, h.hostDrawn, h.turns⟩

theorem Untouched.setFault {s t : State} (h : Untouched s t) (v : Option FaultRecord) : Untouched s (t.setFault v) :=
  ⟨h.cfg, h.seqPc, h.fb, h.reads, h.host, h.hostDrawn, h.turns⟩

theorem Untouched.setRefusal {s t : State} (h : Untouched s t) (v : Option Refusal) : Untouched s (t.setRefusal v) :=
  ⟨h.cfg, h.seqPc, h.fb, h.reads, h.host, h.hostDrawn, h.turns⟩

theorem Untouched.refl (s : State) : Untouched s s := ⟨rfl, rfl, rfl, rfl, rfl, rfl, rfl⟩

/-- No micro-op touches the configuration, the sequencer position, the frame buffer, or what the host and the harness have in hand. -/
theorem exec_untouched {i : Instr} {s t : State} (h : exec i s = .next t) : Untouched s t := by
  have r := Untouched.refl s
  cases i with
  | adv dt => exact Host.Outcome.next.inj h ▸ (r.setNowMs _).setBtn _
  | smp b => exact Host.Outcome.next.inj ((execSmp_eq b s).symm.trans h) ▸ (r.setEnv _).setBtn _
  | eval =>
    change execEval s = _ at h
    unfold execEval at h
    split at h <;> exact Host.Outcome.next.inj h ▸ (r.setEv _).setBtn _
  | guard => exact Host.Outcome.next.inj ((execGuard_eq s).symm.trans h) ▸ r.setScore _
  | apply => exact ((State.applyEvents_eq s).symm.trans (Host.Outcome.next.inj h)) ▸ r.setScore _
  | rwait => exact Host.Outcome.next.inj h ▸ r.setRenderDone _
  | inc b => exact Host.Outcome.next.inj h ▸ r.setScore _
  | dec b => exact Host.Outcome.next.inj h ▸ r.setScore _
  | rstall => exact Host.Outcome.next.inj h ▸ r.setScore _
  | shift ch p col =>
    change execShift ch p col s = _ at h
    unfold execShift at h
    split at h
    · exact Host.Outcome.next.inj h ▸ ((r.drive _).drive _).drive _
    · exact Host.Outcome.next.inj h ▸ r.setRefusal _
  | blank => exact Host.Outcome.next.inj h ▸ r.drive _
  | latch =>
    change execLatch s = _ at h
    unfold execLatch at h
    split at h
    · exact Host.Outcome.next.inj h ▸ (r.drive _).drive _
    · exact Host.Outcome.next.inj h ▸ r.setFault _
  | setaddr p =>
    change execSetaddr p s = _ at h
    unfold execSetaddr at h
    split at h
    · exact Host.Outcome.next.inj h ▸ r.drive _
    · exact Host.Outcome.next.inj h ▸ r.setFault _
  | unblank => exact Host.Outcome.next.inj h ▸ r.drive _

/-- Every micro-op answers a next state: a fault or a refusal is recorded in it (60_exceptions.md R201, R202). -/
theorem exec_answers (i : Instr) (s : State) : ∃ t, exec i s = .next t := by
  cases i <;> simp only [exec]
  case smp => exact ⟨_, execSmp_eq _ s⟩
  case eval => unfold execEval; split <;> exact ⟨_, rfl⟩
  case shift => unfold execShift; split <;> exact ⟨_, rfl⟩
  case latch => unfold execLatch; split <;> exact ⟨_, rfl⟩
  case setaddr => unfold execSetaddr; split <;> exact ⟨_, rfl⟩
  all_goals exact ⟨_, rfl⟩

end Sys2Proof.Machine
end

