-- ==== Sys2Proof/Laws/PerInstr.lean ====
section
/-! SUPPORT. The per-instruction family MatchesRow: a micro-op's word matches its own row of the opcode table (30_encoding.md R87). -/

namespace Sys2Proof.Laws.MatchesRow

/-- `(w & mask) == match` for the word of `i` and the row of `i`. -/
def Statement (i : Instr) : Prop := encode i &&& rowMask i = rowMatch i

theorem adv (dt : Dt) : Statement (.adv dt) := by revert dt; unfold Statement; decide
theorem smp (b : Button) : Statement (.smp b) := by cases b <;> rfl
theorem eval : Statement .eval := rfl
theorem guard : Statement .guard := rfl
theorem apply : Statement .apply := rfl
theorem rwait : Statement .rwait := rfl
theorem inc (b : Button) : Statement (.inc b) := by cases b <;> rfl
theorem dec (b : Button) : Statement (.dec b) := by cases b <;> rfl
theorem rstall : Statement .rstall := rfl
theorem shift (ch : BitVec 2) (p : BitVec 4) (col : BitVec 6) : Statement (.shift ch p col) := by
  revert ch p col; unfold Statement; decide
theorem blank : Statement .blank := rfl
theorem latch : Statement .latch := rfl
theorem setaddr (p : BitVec 4) : Statement (.setaddr p) := by revert p; unfold Statement; decide
theorem unblank : Statement .unblank := rfl

end Sys2Proof.Laws.MatchesRow
end

