-- ==== Sys2Proof/Laws/Step.lean ====
section
/-! SUPPORT. What one step can do: one inversion lemma for each mover, and one for the step. -/

namespace Sys2Proof.Machine

/-- What a turn of the sequencer does when it gives a next state: it performs one decoded micro-op of the fetched word and moves
on, or it refuses a word that decodes to Invalid. -/
def SeqMoves (u t : State) : Prop :=
  stopped u = none ∧
    ((∃ i v, decode (fetch u).1 = .ok i ∧ exec i (fetch u).2 = .next v ∧ t = advancePc i (fetch u).2.renderDone v) ∨
      (∃ why, decode (fetch u).1 = .invalid why ∧ t = (fetch u).2.refuse .illegalEncoding))

/-- What a direct issue of `w` does when it gives a next state. -/
def IssueMoves (w : Word) (u t : State) : Prop :=
  stopped u = none ∧
    ((∃ i, decode w = .ok i ∧ exec i u = .next t) ∨
      (∃ why, decode w = .invalid why ∧ t = u.refuse .illegalEncoding))

/-- What a turn of the host does: it serves its oldest request, or nothing. -/
def HostMoves (u t : State) : Prop :=
  (∃ q qs, u.host = q :: qs ∧ hostAdmits u q = true ∧ t = hostServe (u.setHost qs) q) ∨ t = u

theorem seqStep_cases {u t : State} (h : seqStep u = .next t) : SeqMoves u t := by
  unfold seqStep at h
  cases hs : stopped u with
  | some o => rw [hs] at h; exact absurd (congrArg some h) (hs ▸ stopped_ne_next)
  | none =>
    rw [hs] at h
    refine ⟨hs, ?_⟩
    cases hd : decode (fetch u).1 with
    | invalid why => rw [hd] at h; cases h; exact .inr ⟨why, rfl, rfl⟩
    | ok i =>
      rw [hd] at h
      obtain ⟨v, hv⟩ := exec_answers i (fetch u).2
      simp only [performAndAdvance, hv] at h
      cases h
      exact .inl ⟨i, v, rfl, hv, rfl⟩

theorem issueWord_cases {w : Word} {u t : State} (h : issueWord w u = .next t) : IssueMoves w u t := by
  unfold issueWord at h
  cases hs : stopped u with
  | some o => rw [hs] at h; exact absurd (congrArg some h) (hs ▸ stopped_ne_next)
  | none =>
    rw [hs] at h
    refine ⟨hs, ?_⟩
    cases hd : decode w with
    | invalid why => rw [hd] at h; cases h; exact .inr ⟨why, rfl, rfl⟩
    | ok i => rw [hd] at h; exact .inl ⟨i, rfl, h⟩

theorem hostTurn_cases {u t : State} (h : hostTurn u = .next t) : HostMoves u t := by
  unfold hostTurn at h
  split at h
  · cases h; exact .inr rfl
  · rename_i q qs hq
    split at h
    · cases h; exact .inl ⟨q, qs, hq, ‹_›, rfl⟩
    · cases h; exact .inr rfl

/-- The host's decision changes only its own data. -/
theorem drawHost_eq (s : State) : drawHost s = { s with host := (drawHost s).host, hostDrawn := (drawHost s).hostDrawn } := by
  unfold drawHost
  split <;> rfl

/-- A host with a request waiting decides nothing new. -/
theorem drawHost_cons {s : State} {q : HostReq} {qs : List HostReq} (h : s.host = q :: qs) : drawHost s = s := by
  unfold drawHost
  rw [h]

/-- A host with no request waiting takes one free value. -/
theorem drawHost_nil {s : State} (h : s.host = []) :
    drawHost s = { s with host := (Config.freeHost s.hostDrawn).toList, hostDrawn := s.hostDrawn + 1 } := by
  unfold drawHost
  rw [h]
  rfl

/-- Stopping does not depend on what the host decides. -/
@[simp] theorem stopped_drawHost (s : State) : stopped (drawHost s) = stopped s := by
  rw [drawHost_eq]
  exact stopped_congr rfl rfl rfl

/-- When the render window is open. -/
theorem windowOpen_iff {s : State} : windowOpen s = true ↔ s.fault = none ∧ s.seqPc = 6 ∧ s.renderDone = false := by
  simp [windowOpen, and_assoc]

/-- Whether a request has a step depends on the fault, the position and the RENDER_DONE signal only. -/
theorem hostAdmits_congr {s t : State} (q : HostReq) (hp : t.seqPc = s.seqPc) (hd : t.renderDone = s.renderDone)
    (hf : t.fault = s.fault) : hostAdmits t q = hostAdmits s q := by
  cases q <;> simp [hostAdmits, windowOpen, hp, hd, hf]

/-- When the sequencer moves, the step is its step. -/
theorem step_of_sequencerMoves {s u : State} (h : SequencerMovesFrom s u) : step s = seqStep u := by
  unfold step takeTurn
  rcases h with ⟨ts, ht, rfl⟩ | ⟨ht, hr, rfl⟩
  · rw [ht]
    rfl
  · rw [ht]
    simp [freeStep, hr]

/-- When the host may move and its oldest request has a step, the step serves it. -/
theorem step_of_hostMoves {s u : State} {q : HostReq} {qs : List HostReq} (h : HostMovesFrom s u) (hq : u.host = q :: qs)
    (ha : hostAdmits u q = true) : step s = .next (hostServe (u.setHost qs) q) := by
  unfold step takeTurn
  rcases h with ⟨ts, ht, rfl⟩ | ⟨ht, rfl⟩
  · rw [ht]
    change hostTurn _ = _
    unfold hostTurn
    simp only [State.setTurns, hq, ha, if_true]
  · rw [ht]
    simp only [freeStep, hostReady, hostTurn, hq, ha, if_true]

/-- A directly issued word is the step's. -/
theorem step_withFetchWord (s : State) (nbits w : Nat) : step (s.withFetchWord nbits w) = issueWord (BitVec.ofNat 16 w) s := rfl

/-- Everything a step can do when it gives a next state. -/
theorem step_cases {s t : State} (h : step s = .next t) :
    (∃ ts, s.turns = .reset :: ts ∧ t = (s.setTurns ts).applyReset) ∨
      (∃ w ts, s.turns = .harness w :: ts ∧ IssueMoves w (s.setTurns ts) t) ∨
      (∃ ts, s.turns = .host :: ts ∧ HostMoves (drawHost (s.setTurns ts)) t) ∨
      (∃ ts, s.turns = .sequencer :: ts ∧ SeqMoves (s.setTurns ts) t) ∨
      (s.turns = [] ∧
        ((hostReady (drawHost s) = true ∧ HostMoves (drawHost s) t) ∨ (hostReady (drawHost s) = false ∧ SeqMoves (drawHost s) t))) := by
  unfold step takeTurn at h
  split at h
  · rename_i ht
    refine .inr (.inr (.inr (.inr ⟨ht, ?_⟩)))
    unfold freeStep at h
    split at h
    · exact .inl ⟨‹_›, hostTurn_cases h⟩
    · exact .inr ⟨Bool.eq_false_iff.mpr ‹_›, seqStep_cases h⟩
  · exact .inr (.inr (.inr (.inl ⟨_, ‹_›, seqStep_cases h⟩)))
  · exact .inr (.inr (.inl ⟨_, ‹_›, hostTurn_cases h⟩))
  · exact .inr (.inl ⟨_, _, ‹_›, issueWord_cases h⟩)
  · cases h; exact .inl ⟨_, ‹_›, rfl⟩

/-- The fetch changes only the environment. -/
theorem fetch_state (s : State) : (fetch s).2 = s.setEnv (fetch s).2.env := by
  unfold fetch
  split
  · exact drawDt_state s
  · rfl

/-- Moving on changes only the sequencer position. -/
theorem advancePc_eq (i : Instr) (done : Bool) (s : State) : advancePc i done s = s.setSeqPc (advancePc i done s).seqPc := by
  unfold advancePc
  split
  · rfl
  · split <;> rfl

/-- Serving a request changes only the frame buffer, the refusal mark, the RENDER_DONE signal or the answers of the score reads. -/
theorem hostServe_eq (s : State) (q : HostReq) :
    hostServe s q =
      { s with
        fb := (hostServe s q).fb
        refusal := (hostServe s q).refusal
        renderDone := (hostServe s q).renderDone
        reads := (hostServe s q).reads } := by
  cases q with
  | fbWrite ch r c v =>
    rw [show hostServe s (.fbWrite ch r c v) = if fbInRange ch r c then s.fbStore ch r c v else s.refuse .hostIndexRange from
      rfl]
    split <;> rfl
  | renderDone => rfl
  | scoreRead b => rfl

end Sys2Proof.Machine
end

