-- ==== Sys2Proof/Tests/Slice0.lean ====
section
/-! SUPPORT. The model's own tests: words written out from the spec's encodings, vectors of 95_test_vectors.md (each named in its
comment), and for every statement with hypotheses a state and operands that meet them. -/

namespace Sys2Proof.Tests

open Sys2Proof.Machine

/-- The outcome is a next state that meets `p`. -/
def nextIs (o : Host.Outcome State Fault Refusal) (p : State → Bool) : Bool :=
  match o with
  | .next t => p t
  | .fault _ => false
  | .refused _ => false

/-- An outcome whose next state tests equal to `t` is that next state. -/
theorem nextIs_eq {o : Host.Outcome State Fault Refusal} {t : State} (h : nextIs o (· == t) = true) : o = .next t := by
  unfold nextIs at h
  split at h
  · rw [eq_of_beq h]
  · cases h
  · cases h

/-- The reset state at another sequencer position, at the sequencer's turn. -/
def standingAt (pc : Fin 3336) : State := { State.reset with seqPc := pc, turns := [.sequencer] }

/-- The reset state with one time advance and one level of each button written down for the environment, at the sequencer's turn. -/
def scripted (dt : Dt) (l0 l1 : Bool) : State :=
  { standingAt 0 with env := { dts := [dt], levels := { b0 := [l0], b1 := [l1] }, drawn := 0 } }

/-- The reset state at another sequencer position, with requests of the host waiting and no turn written down. -/
def asking (pc : Fin 3336) (qs : List HostReq) : State := { State.reset with seqPc := pc, host := qs }

/-- The reset state with OUT as a bus word (30_encoding.md R90). -/
def driving (w : BitVec 13) : State := { State.reset with out := Bus.ofWord w }

/-- The reset state with given scores. -/
def scoring (a b : Score) : State := { State.reset with score := { b0 := a, b1 := b } }

/-- The reset state with one bit of the frame buffer set. -/
def lit (ch r c : Nat) : State := State.reset.fbStore ch r c true

/-- A channel record by the columns of 95_test_vectors.md section 2.4. -/
def channel (cur : Bool) (hold : Time) (pend : Bool) (lpd : Time) : Channel :=
  { Channel.reset with curLevel := cur, holdClk := hold, pending := pend, lastPressDur := lpd }

/-- The reset state with two channel records. -/
def channels (c0 c1 : Channel) : State := { State.reset with btn := { b0 := c0, b1 := c1 } }

/-! ### Well-formedness -/

/-- 30_encoding.md R88 case 2: the one check, on its ill-formed terms and on the boundary beside them. -/
theorem test_reserved_channel_is_ill_formed :
    wellFormed (.shift 3#2 0#4 0#6) = false ∧ wellFormed (.shift 2#2 15#4 63#6) = true := by decide

/-! ### Decoding, each word written out bit by bit from 30_encoding.md R81 and R87 -/

theorem test_decode_adv : decode 0b0001000011111010#16 = .ok (.adv 250#12) := by decide
theorem test_decode_smp : decode 0b0010000000000001#16 = .ok (.smp .b1) := by decide
theorem test_decode_eval : decode 0b0011000000000000#16 = .ok .eval := by decide
theorem test_decode_guard : decode 0b0100000000000000#16 = .ok .guard := by decide
theorem test_decode_apply : decode 0b0101000000000000#16 = .ok .apply := by decide
theorem test_decode_rwait : decode 0b0110000000000000#16 = .ok .rwait := by decide
theorem test_decode_inc : decode 0b0111000000000001#16 = .ok (.inc .b1) := by decide
theorem test_decode_dec : decode 0b1000000000000000#16 = .ok (.dec .b0) := by decide
theorem test_decode_rstall : decode 0b1001000000000000#16 = .ok .rstall := by decide
theorem test_decode_shift : decode 0b1010010011000101#16 = .ok (.shift 1#2 3#4 5#6) := by decide
theorem test_decode_blank : decode 0b1011000000000000#16 = .ok .blank := by decide
theorem test_decode_latch : decode 0b1100000000000000#16 = .ok .latch := by decide
theorem test_decode_setaddr : decode 0b1101001111000000#16 = .ok (.setaddr 15#4) := by decide
theorem test_decode_unblank : decode 0b1110000000000000#16 = .ok .unblank := by decide

/-- The Invalid rows of 95_test_vectors.md section 2.1, each with the case of 30_encoding.md R88 it falls under. -/
theorem test_invalid_words :
    decode 0x0FFF#16 = .invalid .reservedOpcode ∧ decode 0xF000#16 = .invalid .reservedOpcode ∧
      decode 0xAC00#16 = .invalid .reservedChannel ∧ decode 0xAFFF#16 = .invalid .reservedChannel ∧
      decode 0x2002#16 = .invalid .mustBeZero ∧ decode 0x6800#16 = .invalid .mustBeZero ∧
      decode 0x7002#16 = .invalid .mustBeZero ∧ decode 0xD3C1#16 = .invalid .mustBeZero ∧
      decode 0xD400#16 = .invalid .mustBeZero := by decide

/-- The word column of 30_encoding.md R91. -/
theorem test_encode_assembler_examples :
    encode (.adv 250#12) = 0x10FA#16 ∧ encode (.smp .b1) = 0x2001#16 ∧ encode .latch = 0xC000#16 ∧
      encode (.dec .b0) = 0x8000#16 ∧ encode (.shift 1#2 3#4 5#6) = 0xA4C5#16 ∧ encode (.setaddr 15#4) = 0xD3C0#16 := by
  decide

/-- The example column of 30_encoding.md R91. -/
theorem test_assembler_lines :
    asmLine (.adv 250#12) = "ADV 250" ∧ asmLine (.smp .b1) = "SMP 1" ∧ asmLine .latch = "LATCH" ∧
      asmLine (.shift 1#2 3#4 5#6) = "SHIFT G, 3, 5" ∧ asmLine (.setaddr 15#4) = "SETADDR 15" := by decide

theorem test_table_word : decodeTableWord 16 0xA4C5 = some (.shift 1#2 3#4 5#6) ∧ decodeTableWord 16 0 = none := by decide

/-- 95_test_vectors.md section 2.1, the MP index checks. -/
theorem test_microprogram_index_checks :
    mpWord 10 0 = 0x100A#16 ∧ mpWord 0 73 = 0xD000#16 ∧ mpWord 0 74 = 0xE000#16 ∧ mpWord 0 75 = 0xA400#16 ∧
      mpWord 0 3270 = 0xE000#16 ∧ mpWord 0 3271 = 0xABC0#16 ∧ mpWord 0 3334 = 0xABFF#16 ∧ mpWord 0 3335 = 0xB000#16 := by
  decide

/-! ### The sequencing micro-ops and the step -/

/-- SQ-3. -/
theorem test_adv_wraps :
    nextIs (exec (.adv 32#12) { channels (channel false 0xFFFFFFF0 false 0) (channel false 5 false 0) with nowMs := 0xFFFFFFF0 })
      (fun t => t.nowMs == 0x10 && t.btn.b0.holdClk == 0x10 && t.btn.b1.holdClk == 37) = true := by decide

/-- SQ-4, SQ-5. -/
theorem test_rwait_holds_then_releases :
    nextIs (step (standingAt 6)) (fun t => t.seqPc == 6) = true ∧
      nextIs (step { standingAt 6 with renderDone := true }) (fun t => t.seqPc == 7 && !t.renderDone) = true := by decide

/-- SQ-6. -/
theorem test_last_micro_op_returns_to_zero :
    nextIs (step (standingAt 3335)) (fun t => t.seqPc == 0 && t.trace.length == 1) = true := by decide

/-- 40_sequencer.md R107: the tick's ADV takes the time advance the environment has written down. -/
theorem test_tick_starts_with_the_drawn_time :
    nextIs (step (scripted 250 true false)) (fun t => t.seqPc == 1 && t.nowMs == 250 && t.env.dts == []) = true := by decide

/-- P2 step 1: a direct issue of 0x7000 from score [99, 0]. -/
theorem test_direct_issue_runs_and_keeps_the_position :
    nextIs (step ((scoring 99 0).withFetchWord 16 0x7000)) (fun t => t.score.b0 == 100 && t.seqPc == 0 && t.turns == []) =
      true := by decide

/-! ### The classifier micro-ops -/

/-- SMP-1. -/
theorem test_smp_rising_edge :
    nextIs (exec (.smp .b0) { scripted 0 true false with
        btn := { b0 := { Channel.reset with holdClk := 20 }, b1 := Channel.reset }, nowMs := 20 })
      (fun t => t.btn.b0 ==
        { Channel.reset with curLevel := true, pressStartedAt := 20, lastReleaseDur := 20, pending := true }) = true := by
  decide

/-- SMP-5. -/
theorem test_smp_falling_edge_overwrites :
    nextIs (exec (.smp .b0) { scripted 0 false false with
        btn := { b0 := channel true 200 true 150, b1 := Channel.reset } })
      (fun t => t.btn.b0 == { Channel.reset with prevLevel := true, lastPressDur := 200, pending := true }) = true := by decide

/-- EV-2: a hold of exactly T_RESET is not above it. -/
theorem test_eval_at_threshold_takes_level_three :
    nextIs (exec .eval (channels (channel true 3000 false 0) (channel false 0 false 500)))
      (fun t => t.ev == 0b10000#5 && t.btn.b1.lastPressDur == 0 && t.btn.b0.holdClk == 3000) = true := by decide

/-- EV-3: level 2 defers the other button's short press. -/
theorem test_eval_decrement_defers_increment :
    nextIs (exec .eval (channels (channel true 1001 true 0) (channel true 5 true 300)))
      (fun t => t.ev == 0b00010#5 && !t.btn.b0.pending && t.btn.b1.pending && t.btn.b1.lastPressDur == 300) = true := by decide

/-! ### The score micro-ops -/

/-- SC-2, SC-3. -/
theorem test_guard_boundary :
    nextIs (exec .guard (scoring 99 99)) (fun t => t.score == { b0 := 99, b1 := 99 }) = true ∧
      nextIs (exec .guard (scoring 0 255)) (fun t => t.score == { b0 := 0, b1 := 0 }) = true := by decide

/-- SC-9, SC-10. -/
theorem test_apply_events :
    nextIs (exec .apply { scoring 5 7 with ev := 0b11000 }) (fun t => t.score == { b0 := 6, b1 := 8 } && t.ev == 0b11000) =
        true ∧
      nextIs (exec .apply { scoring 5 7 with ev := 0b00110 }) (fun t => t.score == { b0 := 4, b1 := 6 }) = true := by decide

/-- SC-5, SC-7, SC-8. -/
theorem test_score_wraps :
    nextIs (exec (.inc .b0) (scoring 255 0)) (fun t => t.score == { b0 := 0, b1 := 0 }) = true ∧
      nextIs (exec (.dec .b1) (scoring 0 0)) (fun t => t.score == { b0 := 0, b1 := 255 }) = true ∧
      nextIs (exec .rstall (scoring 12 99)) (fun t => t.score == { b0 := 0, b1 := 0 }) = true := by decide

/-! ### The scan-out micro-ops -/

/-- SO-1. -/
theorem test_shift_words :
    nextIs (exec (.shift 1#2 3#4 5#6) (lit 1 3 5)) (fun t => t.trace.map Bus.word == [0x0024, 0x0025, 0x0024]) = true := by
  decide

/-- SO-2, SO-3. -/
theorem test_shift_inactive_lines :
    nextIs (exec (.shift 0#2 0#4 0#6) (driving 0x0024)) (fun t => t.trace.map Bus.word == [0x0004, 0x0005, 0x0004]) = true ∧
      nextIs (exec (.shift 0#2 0#4 0#6) { driving 0x0024 with cfg := { Config.default with inactive := .hold } })
        (fun t => t.trace.map Bus.word == [0x0024, 0x0025, 0x0024]) = true := by decide

/-- SO-5, SO-7. -/
theorem test_blank_and_latch_words :
    nextIs (exec .blank (driving 0x0600)) (fun t => t.trace.map Bus.word == [0x0604]) = true ∧
      nextIs (exec .latch (driving 0x0604)) (fun t => t.trace.map Bus.word == [0x0606, 0x0604]) = true := by decide

/-- SO-8, SO-10. -/
theorem test_setaddr_and_unblank_words :
    nextIs (exec (.setaddr 4#4) (driving 0x0604)) (fun t => t.trace.map Bus.word == [0x0804]) = true ∧
      nextIs (exec .unblank (driving 0x0804)) (fun t => t.out.word == 0x0800#13) = true := by decide

/-- 43_scanout.md R187, R188: the observer shows a latched bit on the row that A addresses, and nothing while blank. -/
theorem test_panel_shows_a_latched_bit :
    let p := Panel.watch Bus.reset ([0x000C, 0x000D, 0x000C, 0x000E, 0x000C].map Bus.ofWord) Panel.reset
    p.shows (Bus.ofWord 0x0008) .r 0 0 = true ∧ p.shows (Bus.ofWord 0x0008) .r 16 0 = false ∧
      p.shows (Bus.ofWord 0x000C) .r 0 0 = false := by decide

/-- 00_scope.md R14: the host reads the scores of tick 1 when the window opens. -/
theorem test_window_scores : windowScores 1 { scoring 5 3 with seqPc := 5, turns := [.sequencer] } = [(5, 3)] := by decide

/-! ### Faults, refusals, the host port and reset -/

/-- FR-1, and SQ-7 on the state it leaves. -/
theorem test_setaddr_while_enabled_faults :
    nextIs (step ((driving 0x0800).withFetchWord 16 0xD140)) (fun t =>
      t.fault == some { reason := .hzAddrWhileEnabled, word := 0xD140 } && t.out.word == 0x0800 && t.trace == [] &&
        t.seqPc == 0) = true ∧
      step { standingAt 0 with fault := some { reason := .hzAddrWhileEnabled, word := 0xD140 } } =
        .fault .hzAddrWhileEnabled := ⟨by decide, rfl⟩

/-- FR-4. -/
theorem test_illegal_word_is_refused :
    nextIs (step (State.reset.withFetchWord 16 0xAC00)) (fun t => t.refused && t.fault == none && t.seqPc == 0) = true := by
  decide

/-- FR-5, FR-6. -/
theorem test_host_index_range :
    nextIs (step (asking 6 [.fbWrite 3 0 0 true])) (fun t => t.refusal == some .hostIndexRange) = true ∧
      nextIs (step (asking 6 [.fbWrite 0 32 0 true])) (fun t => t.refusal == some .hostIndexRange) = true := by
  decide

/-- FR-7, FR-8. -/
theorem test_invalid_configurations :
    (State.boot { Config.default with tDec := 3000 }).refused = true ∧
      (State.boot { Config.default with scoreMax := 255 }).refused = true ∧ (State.boot Config.default).refused = false := by
  decide

/-- MEM-1, MEM-3: a write in the window lands, and one at position 100 waits while the sequencer goes on. -/
theorem test_fbwrite_in_and_outside_the_window :
    nextIs (step (asking 6 [.fbWrite 0 5 10 true])) (fun t => t.fbRead 0 5 10 && t.host == []) = true ∧
      nextIs (step (asking 100 [.fbWrite 1 0 0 true]))
        (fun t => t.fb == [] && t.seqPc == 101 && t.host.length == 1) = true := by decide

/-- 20_memory.md R63: its condition names the fault and seq_pc, so a write in range lands on a refused machine and waits on a faulted
one. -/
theorem test_fbwrite_on_a_refused_and_a_faulted_machine :
    nextIs (step { asking 6 [.fbWrite 0 5 10 true] with refusal := some .illegalEncoding })
        (fun t => t.fbRead 0 5 10 && t.refused && t.host == []) = true ∧
      nextIs (step { asking 6 [.fbWrite 0 5 10 true] with
          fault := some { reason := .hzAddrWhileEnabled, word := 0 }, turns := [.host] })
        (fun t => t.fb == [] && t.host.length == 1) = true := by decide

theorem test_reset_recovers_from_a_fault :
    nextIs (step { driving 0x0800 with
        fault := some { reason := .hzAddrWhileEnabled, word := 0 }, turns := [.reset], seqPc := 9 })
      (fun t => t == State.reset) = true := by decide

theorem test_reset_memory_is_canonical : Memory.wf State.reset.fb := by decide

/-! ### Witnesses: the hypotheses of each statement are met together -/

theorem witness_DecodeOfEncodeIsTheMicroOp : wellFormed (.shift 2#2 15#4 63#6) = true := by decide

theorem witness_EncodeOfDecodeIsTheWord : decode 0xABFF#16 = .ok (.shift 2#2 15#4 63#6) := by decide

theorem witness_WordsMatchTheirTableRow : wellFormed (.smp .b1) = true := by decide

theorem witness_ReservedWordsAreInvalid :
    (0x0FFF#16).extractLsb' 12 4 = 0x0#4 ∧ (0xFFFF#16).extractLsb' 12 4 = 0xF#4 ∧
      ((0xAC00#16).extractLsb' 12 4 = 0xA#4 ∧ (0xAC00#16).extractLsb' 10 2 = 3#2) ∧
      ((0xE001#16).extractLsb' 12 4 ∈ [0x3#4, 0x4#4, 0x5#4, 0x6#4, 0x9#4, 0xB#4, 0xC#4, 0xE#4] ∧
        (0xE001#16).extractLsb' 0 12 ≠ 0#12) ∧
      ((0x8002#16).extractLsb' 12 4 ∈ [0x2#4, 0x7#4, 0x8#4] ∧ (0x8002#16).extractLsb' 1 11 ≠ 0#11) ∧
      (0xD400#16).extractLsb' 12 4 = 0xD#4 ∧ (0xD400#16).extractLsb' 10 2 ≠ 0#2 ∧
      (0xD001#16).extractLsb' 12 4 = 0xD#4 ∧ (0xD001#16).extractLsb' 0 6 ≠ 0#6 := by decide

/-- The first and the last subframe's closing micro-ops. -/
theorem witness_SubframeClosesInOrder :
    mpInstr 0 72 = .latch ∧ mpInstr 0 73 = .setaddr 0#4 ∧ mpInstr 0 74 = .unblank ∧ mpInstr 0 3268 = .latch ∧
      mpInstr 0 3269 = .setaddr 15#4 ∧ mpInstr 0 3270 = .unblank := by decide

theorem witness_StepRunsTheIssuedMicroOp :
    stopped State.reset = none ∧ decode (BitVec.ofNat 16 0xE000) = .ok .unblank := ⟨rfl, by decide⟩

/-- The written turn of the sequencer while a request of the host could be served, and no turn written down with one that cannot. -/
theorem witness_StepRunsTheMicroprogram :
    (∃ u, stopped (standingAt 6) = none ∧ hostReady { standingAt 6 with host := [.fbWrite 0 0 0 true] } = true ∧
        SequencerMovesFrom { standingAt 6 with host := [.fbWrite 0 0 0 true] } u) ∧
      stopped (asking 3335 [.renderDone]) = none ∧
      SequencerMovesFrom (asking 3335 [.renderDone]) (asking 3335 [.renderDone]) :=
  ⟨⟨_, rfl, rfl, .inl ⟨_, rfl, rfl⟩⟩, rfl, .inr ⟨rfl, rfl, rfl⟩⟩

theorem witness_DirectIssueKeepsTheSequencer :
    ∃ s t w ts, s.turns = Turn.harness w :: ts ∧ step s = .next t :=
  ⟨State.reset.withFetchWord 16 0x3000, _, _, _, rfl, rfl⟩

/-- Both clauses: without and with RENDER_DONE. -/
theorem witness_RenderWaitHoldsAndReleases :
    (∃ u, stopped (standingAt 6) = none ∧ SequencerMovesFrom (standingAt 6) u ∧ (standingAt 6).seqPc = 6 ∧
        (standingAt 6).renderDone = false) ∧
      (let s := { asking 6 [.renderDone] with renderDone := true }
       stopped s = none ∧ SequencerMovesFrom s s ∧ s.seqPc = 6 ∧ s.renderDone = true) :=
  ⟨⟨_, rfl, .inl ⟨_, rfl, rfl⟩, rfl, rfl⟩, rfl, .inr ⟨rfl, rfl, rfl⟩, rfl, rfl⟩

/-- A rising edge, a falling edge and no edge. -/
theorem witness_SmpTakesTheLevelAndItsEdge :
    ((scripted 0 true false).btn.b0.curLevel = false ∧ (drawLevel .b0 (scripted 0 true false)).1 = true) ∧
      (let s := { scripted 0 false false with btn := { b0 := channel true 9 true 0, b1 := Channel.reset } }
       (s.btn.get .b0).curLevel = true ∧ (drawLevel .b0 s).1 = false) ∧
      ((scripted 0 true false).btn.b1.curLevel = (drawLevel .b1 (scripted 0 true false)).1) := by decide

/-- With a level written down, and with none. -/
theorem witness_SmpDrawsOneLevel :
    (∃ t, exec (.smp .b0) (scripted 0 true false) = .next t ∧ (scripted 0 true false).env.levels.get .b0 = [true]) ∧
      ∃ t, exec (.smp .b1) State.reset = .next t ∧ State.reset.env.levels.get .b1 = [] :=
  ⟨⟨_, rfl, rfl⟩, _, rfl, rfl⟩

/-- One count above T_RESET. -/
theorem witness_EvalLevelOneResets :
    let s := channels (channel false 0 false 0) (channel true 3001 false 0)
    (s.btn.get .b1).curLevel = true ∧ s.cfg.tReset < (s.btn.get .b1).holdClk.toNat := by decide

/-- One count above T_DEC, with the other button exactly at T_RESET. -/
theorem witness_EvalLevelTwoDecrements :
    let s := channels (channel true 1001 true 0) (channel true 3000 false 0)
    (∀ b, (s.btn.get b).curLevel = true → (s.btn.get b).holdClk.toNat ≤ s.cfg.tReset) ∧
      (s.btn.get .b0).curLevel = true ∧ s.cfg.tDec < (s.btn.get .b0).holdClk.toNat ∧ (s.btn.get .b0).pending = true := by
  refine ⟨fun b => ?_, by decide⟩
  cases b <;> decide

/-- Exactly at T_DEC with `pending`, and a last press of T_DEBOUNCE + 1. -/
theorem witness_EvalLevelThreeIncrements :
    let s := channels (channel true 1000 true 0) (channel false 0 false 76)
    (∀ b, (s.btn.get b).curLevel = true → (s.btn.get b).holdClk.toNat ≤ s.cfg.tReset) ∧
      ∀ b, (s.btn.get b).curLevel = true → (s.btn.get b).pending = true → (s.btn.get b).holdClk.toNat ≤ s.cfg.tDec := by
  constructor <;> intro b <;> cases b <;> decide

/-- A step that sets `pending` and one that clears it. -/
theorem witness_PendingIsSetByPressClearedByDecrement :
    nextIs (step { scripted 0 true false with seqPc := 1 }) (fun t => t.btn.b0.pending) = true ∧
      nextIs (step { channels (channel true 1001 true 0) Channel.reset with seqPc := 3, turns := [.sequencer] }) (fun t => !t.btn.b0.pending) = true := by
  decide

theorem reset_clockBound : ClockBound State.reset := fun b h => by cases b <;> exact absurd h (by decide)

theorem witness_PressedClockStaysBounded :
    ∃ t, Config.default.tReset + Config.dtMax < 2 ^ 32 ∧ (standingAt 3).turns.all Turn.inMp = true ∧ ClockBound (standingAt 3) ∧
      step (standingAt 3) = .next t :=
  ⟨_, by decide, rfl, fun b h => by cases b <;> exact absurd h (by decide), rfl⟩

/-- Scores one above the ceiling, and exactly at it. -/
theorem witness_GuardResetsBothOrNothing :
    Config.default.scoreMax < ((scoring 100 0).score.get .b0).toNat ∧
      ∀ b, ((scoring 99 99).score.get b).toNat ≤ Config.default.scoreMax :=
  ⟨by decide, fun b => by cases b <;> decide⟩

theorem witness_ScoresStayInTheirRanges :
    let s := { scoring 100 255 with seqPc := 4, turns := [.sequencer] }
    ∃ t, s.turns.all Turn.inMp = true ∧ ScoreBound s ∧ step s = .next t :=
  ⟨_, rfl, fun b => by cases b <;> decide, rfl⟩

theorem witness_EventsStayInOneGroup : ∃ t, evOneGroup (0b11000#5) = true ∧
    step { standingAt 3 with ev := 0b11000 } = .next t := ⟨_, by decide, rfl⟩

theorem witness_ShiftDrivesAndClocksOnePair : chanOf 0#2 = some .r ∧ chanOf 2#2 = some .b := by decide

theorem witness_LatchStrobesOnlyWhileBlank : State.reset.out.oeN = true ∧ (driving 0x0000).out.oeN = false := by decide

theorem witness_SetaddrDrivesTheRowOnlyWhileBlank : State.reset.out.oeN = true ∧ (driving 0x0800).out.oeN = false := by
  decide

theorem witness_EachMicroOpEmitsItsWords :
    ∃ t, wellFormed .latch = true ∧ State.reset.fault = none ∧ exec .latch State.reset = .next t ∧ t.fault = none :=
  ⟨_, rfl, rfl, rfl, rfl⟩

theorem reset_traceInv : TraceInv State.reset := ⟨by decide, by decide, by decide, by decide⟩

theorem witness_TraceKeepsTheProtocol : ∃ t, TraceInv (standingAt 7) ∧ step (standingAt 7) = .next t :=
  ⟨_, ⟨by decide, by decide, by decide, by decide⟩, rfl⟩

/-- Just before the first UNBLANK of a tick. -/
theorem standing74_mpInv : MpInv (standingAt 74) where
  turnsInMp := by decide
  noFault := by decide
  fbCanonical := by decide
  doneAtWait := by decide
  clkIdle := by decide
  latIdle := by decide
  blankOutside := by decide
  rowDriven := by decide
  rowBefore := by decide

theorem witness_MicroprogramKeepsItsInvariant : ∃ t, MpInv (standingAt 74) ∧ step (standingAt 74) = .next t :=
  ⟨_, standing74_mpInv, rfl⟩

theorem witness_ResetMeetsTheInvariants : configValid Config.default = true := by decide

theorem reset_darkInv : DarkInv (standingAt 7) := ⟨rfl, by decide, by decide⟩

theorem witness_AllZeroFrameStaysDark :
    (∃ t, DarkInv (standingAt 7) ∧ step (standingAt 7) = .next t) ∧
      ∀ ch r c qs, (drawHost (asking 7 [.renderDone])).host ≠ .fbWrite ch r c true :: qs :=
  ⟨⟨_, reset_darkInv, rfl⟩, by rintro _ _ _ _ ⟨⟩⟩

theorem sequencerTurns_inMp (n : Nat) : (List.replicate n Turn.sequencer ++ []).all Turn.inMp = true := by
  rw [List.append_nil, List.all_replicate]
  split <;> rfl

/-- The reset state at the first SHIFT, with the scan pass's turns and a request waiting, meets the scan pass's hypotheses. -/
theorem witness_ScanPassHasEqualWindows :
    let s := { asking 7 [.renderDone] with turns := List.replicate 3329 .sequencer ++ [] }
    MpInv s ∧ stopped s = none ∧ s.seqPc = 7 ∧ s.turns = List.replicate 3329 .sequencer ++ [] :=
  ⟨{ turnsInMp := sequencerTurns_inMp 3329
     noFault := rfl
     fbCanonical := by decide
     doneAtWait := by decide
     clkIdle := rfl
     latIdle := rfl
     blankOutside := rfl
     rowDriven := by decide
     rowBefore := by decide }, rfl, rfl, rfl⟩

theorem witness_SubframeLatchesItsRows : chanOf 1#2 = some .g ∧ TraceInv State.reset ∧ stopped State.reset = none :=
  ⟨by decide, reset_traceInv, rfl⟩

/-- The three cases at their boundaries: row 32 on a faulted machine, position 5 at the host's written turn and with none, and the last
cell in the window with no turn written down. -/
theorem witness_FbWriteFollowsItsRule :
    (let s := { asking 5 [.fbWrite 0 32 0 true] with fault := some { reason := .hzLatchWhileEnabled, word := 0xC000 } }
     HostMovesFrom s s ∧ s.host = [.fbWrite 0 32 0 true] ∧ 31 < 32) ∧
      (let u := asking 5 [.fbWrite 2 31 63 true]
       HostMovesFrom u u ∧ HostMovesFrom { u with turns := [.host] } u ∧ u.host = [.fbWrite 2 31 63 true] ∧
         (u.fault.isSome = true ∨ u.seqPc ≠ 6 ∨ u.renderDone = true)) ∧
      (let s := { asking 6 [.fbWrite 2 31 63 true] with refusal := some .illegalEncoding }
       HostMovesFrom s s ∧ s.host = [.fbWrite 2 31 63 true] ∧ Memory.wf s.fb ∧ s.fault = none ∧ s.seqPc = 6 ∧
         s.renderDone = false) :=
  ⟨⟨.inr ⟨rfl, rfl⟩, rfl, by decide⟩, ⟨.inr ⟨rfl, rfl⟩, .inl ⟨[], rfl, rfl⟩, rfl, .inr (.inl (by decide))⟩,
    .inr ⟨rfl, rfl⟩, rfl, by decide, rfl, rfl, rfl⟩

theorem witness_EarlyFbWriteWaitsForTheWindow :
    let s := asking 7 [.fbWrite 2 31 63 true]
    s.turns = [] ∧ s.host = [.fbWrite 2 31 63 true] ∧ stopped s = none ∧ s.seqPc ≠ 6 := ⟨rfl, rfl, rfl, by decide⟩

/-- A score read outside the window, RENDER_DONE in it with no turn written down, and RENDER_DONE just after it at the host's turn. -/
theorem witness_HostReadsScoresAndEndsTheWindow :
    (let s := asking 100 [.scoreRead .b1]
     HostMovesFrom s s ∧ s.host = [.scoreRead .b1]) ∧
      (let s := asking 6 [.renderDone]
       HostMovesFrom s s ∧ s.host = [.renderDone] ∧ s.fault = none ∧ s.seqPc = 6 ∧ s.renderDone = false) ∧
      (let s := { asking 7 [.renderDone] with turns := [.host] }
       HostMovesFrom s (asking 7 [.renderDone]) ∧ (asking 7 [.renderDone]).host = [.renderDone] ∧ s.seqPc ≠ 6 ∧
         s.turns ≠ []) :=
  ⟨⟨.inr ⟨rfl, rfl⟩, rfl⟩, ⟨.inr ⟨rfl, rfl⟩, rfl, rfl, rfl, rfl⟩, .inl ⟨[], rfl, rfl⟩, rfl, by decide, by decide⟩

theorem witness_FrameBufferChangesByFbWriteOnly :
    ∃ t, step (asking 6 [.fbWrite 0 0 0 true]) = .next t ∧ (asking 6 [.fbWrite 0 0 0 true]).turns.head? ≠ some .reset := ⟨_, rfl, by decide⟩

theorem witness_FrameBufferStaysCanonical :
    ∃ t, Memory.wf (lit 2 31 63).fb ∧ step { lit 2 31 63 with seqPc := 6, host := [.fbWrite 2 31 63 false] } = .next t :=
  ⟨_, by decide, rfl⟩

theorem witness_OnlyTheListedMicroOpsWrite : ∃ t, exec .apply State.reset = .next t := ⟨_, rfl⟩

theorem witness_ConfigurationNeverChanges : ∃ t, step (standingAt 4) = .next t := ⟨_, rfl⟩

theorem witness_RaisedFaultStopsTheMachine : stopped (driving 0x0000) = none ∧ (driving 0x0000).out.oeN = false :=
  ⟨rfl, by decide⟩

theorem witness_IllegalWordsAreRefused :
    stopped State.reset = none ∧ decode (BitVec.ofNat 16 0xAC00) = .invalid .reservedChannel := ⟨rfl, by decide⟩

/-- A faulted and a refused state at the sequencer's turn. -/
theorem witness_HaltedMachineHasNoStep :
    let s := { standingAt 6 with fault := some { reason := .hzLatchWhileEnabled, word := 0xC000 } }
    let r := { standingAt 6 with refusal := some .illegalEncoding }
    (∃ u, SequencerMovesFrom s u ∧ s.fault.isSome = true) ∧
      ∃ u, SequencerMovesFrom r u ∧ r.fault = none ∧ r.refusal = some .illegalEncoding :=
  ⟨⟨_, .inl ⟨_, rfl, rfl⟩, rfl⟩, _, .inl ⟨_, rfl, rfl⟩, rfl, rfl⟩

/-- A faulted and a refused state that still give next states: the host reads a score, and writes a bit in the window. -/
theorem witness_HaltedMachineHasNoStep_next :
    let s := asking 0 [.scoreRead .b0]
    (∃ t, step { s with fault := some { reason := .hzLatchWhileEnabled, word := 0xC000 } } = .next t) ∧
      ∃ t, step { asking 6 [.fbWrite 0 0 0 true] with refusal := some .illegalEncoding } = .next t :=
  ⟨⟨_, rfl⟩, _, rfl⟩

/-- T_DEC equal to T_RESET, and a ceiling of 255. -/
theorem witness_InvalidConfigurationIsRefused :
    (let c := { Config.default with tDec := 3000 }
     ¬(c.tDebounce < c.tDec ∧ c.tDec < c.tReset ∧ c.tReset < 2 ^ 32 ∧ c.scoreMax < 255)) ∧
      (let c := { Config.default with scoreMax := 255 }
       ¬(c.tDebounce < c.tDec ∧ c.tDec < c.tReset ∧ c.tReset < 2 ^ 32 ∧ c.scoreMax < 255)) := by decide

theorem witness_ResetLeavesTheStatedValues : configValid { Config.default with tDebounce := 0, scoreMax := 254 } = true := by
  decide

theorem witness_ResetWorksInEveryState :
    ({ driving 0x0800 with turns := [.reset], fault := some { reason := .hzAddrWhileEnabled, word := 0xD140 } } : State).turns =
      [.reset] := rfl

theorem witness_FirstTickGivesNoEvent : configValid { Config.default with inactive := .hold } = true := by decide

theorem witness_HostDecidesFreelyWhenNothingWaits :
    (State.reset.host = [] ∧ State.reset.turns = []) ∧
      ({ State.reset with turns := [.host] } : State).host = [] ∧ ({ State.reset with turns := [.host] } : State).turns = [.host] :=
  ⟨⟨rfl, rfl⟩, rfl, rfl⟩

theorem witness_OnlyFaultsAndRefusalsHalt : stopped State.reset = none := rfl

theorem witness_EveryTickOfARunCanEnd : configValid { Config.default with tReset := 4294967295 } = true := by decide

/-- A run whose sequencer is held at RWAIT for ever. -/
def held (_ : Nat) : State := { State.reset with seqPc := 6 }

theorem held_isRun : IsRun held := fun _ => ⟨State.reset.env, [], .sequencer, .inl rfl, nextIs_eq (by unfold held; decide)⟩

theorem witness_HeldRunEndsNoTick :
    IsRun held ∧ (held 0).seqPc = 6 ∧ ∀ m, 0 ≤ m → (held m).renderDone = false := ⟨held_isRun, rfl, fun _ _ => rfl⟩

/-- A run from reset in which the host reads a score for ever. -/
def reading (n : Nat) : State := { State.boot Config.default with reads := List.replicate n (.b0, 0) }

theorem witness_TraceCountsTheTicks : IsRun reading ∧ reading 0 = State.boot Config.default := by
  refine ⟨fun n => ⟨State.reset.env, [.scoreRead .b0], .host, .inr rfl, ?_⟩, rfl⟩
  simp only [reading, List.replicate_succ']
  rfl

/-- With a time advance written down, and with none. -/
theorem witness_TickDrawsOneTimeAdvance :
    (∃ u, stopped (scripted 4095 true true) = none ∧ SequencerMovesFrom (scripted 4095 true true) u ∧
        (scripted 4095 true true).seqPc = 0 ∧ (scripted 4095 true true).env.dts = [4095]) ∧
      ∃ u, stopped (standingAt 0) = none ∧ SequencerMovesFrom (standingAt 0) u ∧ (standingAt 0).seqPc = 0 ∧
        (standingAt 0).env.dts = [] :=
  ⟨⟨_, rfl, .inl ⟨_, rfl, rfl⟩, rfl, rfl⟩, _, rfl, .inl ⟨_, rfl, rfl⟩, rfl, rfl⟩

/-- 40_sequencer.md R108, R102: the step from 3335 ends a tick, and the step before it does not. -/
theorem test_end_of_tick :
    nextIs (step (standingAt 3335)) (fun t => endsTick (standingAt 3335) t) = true ∧
      nextIs (step (standingAt 3334)) (fun t => !endsTick (standingAt 3334) t) = true := by decide

end Sys2Proof.Tests
end

section
/-! What a stopped machine answers, and the state an invalid configuration boots to (00_scope.md R7, 60_exceptions.md R202). -/

namespace Sys2Proof.Machine

/-- The stop of a refused machine without a fault is its refusal. -/
theorem stopped_of_refusal {s : State} {r : Refusal} (hf : s.fault = none) (hr : s.refusal = some r) :
    stopped s = some (.refused r) := by
  unfold stopped; rw [hf, hr]

theorem seqStep_of_stopped {s : State} {o : Host.Outcome State Fault Refusal} (h : stopped s = some o) : seqStep s = o := by
  unfold seqStep; rw [h]

theorem issueWord_of_stopped {s : State} {o : Host.Outcome State Fault Refusal} (w : Word) (h : stopped s = some o) :
    issueWord w s = o := by
  unfold issueWord; rw [h]

@[simp] theorem State.boot_fault (c : Config) : (State.boot c).fault = none := rfl

/-- Booting marks exactly the invalid configurations. -/
theorem State.boot_refusal (c : Config) :
    (State.boot c).refusal = if configValid c then none else some .configInvalid := rfl

theorem State.boot_refusal_of_invalid {c : Config} (h : ¬configValid c = true) :
    (State.boot c).refusal = some .configInvalid := by
  rw [State.boot_refusal, if_neg h]

/-- Settles O51: the mark set at boot is the stop that both the sequencer's step and a direct issue answer. -/
theorem invalidConfigurationIsRefused : Obligations.InvalidConfigurationIsRefused := by
  intro c hc
  have hmark : (State.boot c).refusal = some .configInvalid :=
    State.boot_refusal_of_invalid (mt configValid_iff.mp hc)
  have hstop : stopped (State.boot c) = some (.refused .configInvalid) := stopped_of_refusal (State.boot_fault c) hmark
  refine ⟨?_, fun ts => ?_, fun w => ?_⟩
  · simp [State.refused, hmark]
  · rw [step_of_sequencerMoves (.inl ⟨ts, rfl, rfl⟩)]
    exact seqStep_of_stopped ((stopped_congr rfl rfl rfl).trans hstop)
  · rw [step_withFetchWord]
    exact issueWord_of_stopped _ hstop

end Sys2Proof.Machine
end

section
/-! What each micro-op writes, register by register, and what a step does to the registers (10_state.md R21 to R36). -/

namespace Sys2Proof.Machine

/-! ### What a micro-op writes -/

/-- What micro-op `i` writes of the state `s`: the classifier's micro-ops with the values they write, the others with the fields
they may write. -/
inductive Writes (s : State) : Instr → State → Prop
  | adv (dt : Dt) :
    Writes s (.adv dt) ((s.setNowMs (s.nowMs + dtOperand dt)).setBtn (s.btn.map (Channel.advance (dtOperand dt))))
  | smp (b : Button) :
    Writes s (.smp b)
      ((s.setEnv (drawLevel b s).2.env).setBtn (s.btn.set b ((s.btn.get b).sampled s.nowMs (drawLevel b s).1)))
  | evalReset (level : evalLevel s = .reset) :
    Writes s .eval ((s.setEv (evWord true noButton noButton)).setBtn (s.btn.map Channel.restart))
  | evalDecrement (level : evalLevel s = .decrement) :
    Writes s .eval ((s.setEv (evWord false (s.btn.map (decrementDue s.cfg)) noButton)).setBtn
      (s.btn.map (Channel.afterDecrement s.cfg)))
  | evalIncrement (level : evalLevel s = .increment) :
    Writes s .eval ((s.setEv (evWord false noButton (s.btn.map (incrementDue s.cfg)))).setBtn (s.btn.map Channel.consumed))
  | guard (v : PerButton Score) : Writes s .guard (s.setScore v)
  | apply (v : PerButton Score) : Writes s .apply (s.setScore v)
  | rwait : Writes s .rwait (s.setRenderDone false)
  | inc (b : Button) (v : PerButton Score) : Writes s (.inc b) (s.setScore v)
  | dec (b : Button) (v : PerButton Score) : Writes s (.dec b) (s.setScore v)
  | rstall (v : PerButton Score) : Writes s .rstall (s.setScore v)
  | shift (ch : BitVec 2) (p : BitVec 4) (col : BitVec 6) (o : Bus) (words : List Bus) (r : Option Refusal) :
    Writes s (.shift ch p col) { s with out := o, traceRev := words, refusal := r }
  | blank (o : Bus) (words : List Bus) : Writes s .blank { s with out := o, traceRev := words }
  | latch (o : Bus) (words : List Bus) (f : Option FaultRecord) :
    Writes s .latch { s with out := o, traceRev := words, fault := f }
  | setaddr (p : BitVec 4) (o : Bus) (words : List Bus) (f : Option FaultRecord) :
    Writes s (.setaddr p) { s with out := o, traceRev := words, fault := f }
  | unblank (o : Bus) (words : List Bus) : Writes s .unblank { s with out := o, traceRev := words }

theorem execEval_writes {s t : State} (h : execEval s = .next t) : Writes s .eval t := by
  unfold execEval at h
  split at h <;> cases h
  · exact .evalReset ‹_›
  · exact .evalDecrement ‹_›
  · exact .evalIncrement ‹_›

theorem execShift_writes {ch : BitVec 2} {p : BitVec 4} {col : BitVec 6} {s t : State} (h : execShift ch p col s = .next t) :
    Writes s (.shift ch p col) t := by
  unfold execShift at h
  split at h <;> cases h
  · exact .shift ch p col _ _ s.refusal
  · exact .shift ch p col s.out s.traceRev _

theorem execLatch_writes {s t : State} (h : execLatch s = .next t) : Writes s .latch t := by
  unfold execLatch at h
  split at h <;> cases h
  · exact .latch _ _ s.fault
  · exact .latch s.out s.traceRev _

theorem execSetaddr_writes {p : BitVec 4} {s t : State} (h : execSetaddr p s = .next t) : Writes s (.setaddr p) t := by
  unfold execSetaddr at h
  split at h <;> cases h
  · exact .setaddr p _ _ s.fault
  · exact .setaddr p s.out s.traceRev _

/-- Every micro-op writes what `Writes` lists for it. -/
theorem exec_writes {i : Instr} {s t : State} (h : exec i s = .next t) : Writes s i t := by
  cases i with
  | adv dt => exact Host.Outcome.next.inj h ▸ .adv dt
  | smp b => exact Host.Outcome.next.inj ((execSmp_eq b s).symm.trans h) ▸ .smp b
  | eval => exact execEval_writes h
  | guard => exact Host.Outcome.next.inj ((execGuard_eq s).symm.trans h) ▸ .guard _
  | apply => exact ((State.applyEvents_eq s).symm.trans (Host.Outcome.next.inj h)) ▸ .apply _
  | rwait => exact Host.Outcome.next.inj h ▸ .rwait
  | inc b => exact Host.Outcome.next.inj h ▸ .inc b _
  | dec b => exact Host.Outcome.next.inj h ▸ .dec b _
  | rstall => exact Host.Outcome.next.inj h ▸ .rstall _
  | shift ch p col => exact execShift_writes h
  | blank => exact Host.Outcome.next.inj h ▸ .blank _ _
  | latch => exact execLatch_writes h
  | setaddr p => exact execSetaddr_writes h
  | unblank => exact Host.Outcome.next.inj h ▸ .unblank _ _

/-! ### Which micro-ops write a register -/

section

variable {i : Instr} {s t : State} (h : exec i s = .next t)
include h

/-- R28: only ADV writes the time base. -/
theorem exec_nowMs (hadv : ∀ dt, i ≠ .adv dt) : t.nowMs = s.nowMs := by
  cases exec_writes h with
  | adv dt => exact absurd rfl (hadv dt)
  | _ => rfl

/-- R21 to R27: only ADV, SMP and EVAL write the channel records. -/
theorem exec_btn (hadv : ∀ dt, i ≠ .adv dt) (hsmp : ∀ b, i ≠ .smp b) (heval : i ≠ .eval) : t.btn = s.btn := by
  cases exec_writes h with
  | adv dt => exact absurd rfl (hadv dt)
  | smp b => exact absurd rfl (hsmp b)
  | evalReset | evalDecrement | evalIncrement => exact absurd rfl heval
  | _ => rfl

/-- SMP writes its own button's record only. -/
theorem exec_smp_other {b c : Button} (hi : i = .smp c) (hb : i ≠ .smp b) : t.btn.get b = s.btn.get b := by
  subst hi
  cases exec_writes h
  exact PerButton.get_set_other _ _ fun hbc => hb (hbc ▸ rfl)

/-- R29: only EVAL writes the event register. -/
theorem exec_ev (heval : i ≠ .eval) : t.ev = s.ev := by
  cases exec_writes h with
  | evalReset | evalDecrement | evalIncrement => exact absurd rfl heval
  | _ => rfl

/-- R30: only GUARD, APPLY, RSTALL, INC and DEC write the scores. -/
theorem exec_score (hguard : i ≠ .guard) (happly : i ≠ .apply) (hrstall : i ≠ .rstall) (hinc : ∀ b, i ≠ .inc b)
    (hdec : ∀ b, i ≠ .dec b) : t.score = s.score := by
  cases exec_writes h with
  | guard => exact absurd rfl hguard
  | apply => exact absurd rfl happly
  | rstall => exact absurd rfl hrstall
  | inc b => exact absurd rfl (hinc b)
  | dec b => exact absurd rfl (hdec b)
  | _ => rfl

/-- R31: only the scan-out micro-ops write the output register. -/
theorem exec_out (hshift : ∀ ch p col, i ≠ .shift ch p col) (hblank : i ≠ .blank) (hlatch : i ≠ .latch)
    (hsetaddr : ∀ p, i ≠ .setaddr p) (hunblank : i ≠ .unblank) : t.out = s.out := by
  cases exec_writes h with
  | shift ch p col => exact absurd rfl (hshift ch p col)
  | blank => exact absurd rfl hblank
  | latch => exact absurd rfl hlatch
  | setaddr p => exact absurd rfl (hsetaddr p)
  | unblank => exact absurd rfl hunblank
  | _ => rfl

end

/-! ### Which micro-ops write a field of a channel record -/

/-- The fields of a channel record that SMP alone writes are the same (10_state.md R21, R22, R24, R26). -/
structure SameSample (c d : Channel) : Prop where
  prevLevel : d.prevLevel = c.prevLevel
  curLevel : d.curLevel = c.curLevel
  pressStartedAt : d.pressStartedAt = c.pressStartedAt
  lastReleaseDur : d.lastReleaseDur = c.lastReleaseDur

theorem SameSample.refl (c : Channel) : SameSample c c := ⟨rfl, rfl, rfl, rfl⟩

theorem SameSample.map {f : Channel → Channel} (hf : ∀ c, SameSample c (f c)) (v : PerButton Channel) (b : Button) :
    SameSample (v.get b) ((v.map f).get b) := by
  rw [PerButton.get_map]; exact hf _

/-- Level 2 writes `pending` only (41_classifier.md R125). -/
theorem Channel.afterDecrement_eq (cfg : Config) (c : Channel) :
    c.afterDecrement cfg = { c with pending := c.pending && !decrementDue cfg c } := by
  unfold Channel.afterDecrement
  split <;> simp [*]

theorem sameSample_advance (d : Time) (c : Channel) : SameSample c (c.advance d) := ⟨rfl, rfl, rfl, rfl⟩

theorem sameSample_restart (c : Channel) : SameSample c c.restart := ⟨rfl, rfl, rfl, rfl⟩

theorem sameSample_afterDecrement (cfg : Config) (c : Channel) : SameSample c (c.afterDecrement cfg) := by
  rw [Channel.afterDecrement_eq]; exact ⟨rfl, rfl, rfl, rfl⟩

theorem sameSample_consumed (c : Channel) : SameSample c c.consumed := ⟨rfl, rfl, rfl, rfl⟩

section

variable {i : Instr} {s t : State} (h : exec i s = .next t) (b : Button)
include h

/-- SMP b alone writes button b's levels and time stamps. -/
theorem exec_sameSample (hsmp : i ≠ .smp b) : SameSample (s.btn.get b) (t.btn.get b) := by
  cases i with
  | smp c => exact exec_smp_other h rfl hsmp ▸ .refl _
  | adv dt => cases exec_writes h; exact .map (sameSample_advance _) s.btn b
  | eval =>
    cases exec_writes h with
    | evalReset => exact .map sameSample_restart s.btn b
    | evalDecrement => exact .map (sameSample_afterDecrement s.cfg) s.btn b
    | evalIncrement => exact .map sameSample_consumed s.btn b
  | _ => exact exec_btn h nofun nofun nofun ▸ .refl _

/-- SMP b and EVAL alone write button b's press duration and its `pending` (10_state.md R25, R27). -/
theorem exec_lastPressDur_pending (hsmp : i ≠ .smp b) (heval : i ≠ .eval) :
    (t.btn.get b).lastPressDur = (s.btn.get b).lastPressDur ∧ (t.btn.get b).pending = (s.btn.get b).pending := by
  cases i with
  | smp c => rw [exec_smp_other h rfl hsmp]; exact ⟨rfl, rfl⟩
  | adv dt => cases exec_writes h; rw [State.setBtn_btn, PerButton.get_map]; exact ⟨rfl, rfl⟩
  | eval => exact absurd rfl heval
  | _ => rw [exec_btn h nofun nofun nofun]; exact ⟨rfl, rfl⟩

/-- ADV, SMP b and EVAL alone write button b's clock (10_state.md R23). -/
theorem exec_holdClk (hadv : ∀ dt, i ≠ .adv dt) (hsmp : i ≠ .smp b) (heval : i ≠ .eval) :
    (t.btn.get b).holdClk = (s.btn.get b).holdClk := by
  cases i with
  | smp c => rw [exec_smp_other h rfl hsmp]
  | adv dt => exact absurd rfl (hadv dt)
  | eval => exact absurd rfl heval
  | _ => rw [exec_btn h nofun nofun nofun]

end

/-- Settles O46: one lemma per register, each by the micro-ops that write it. -/
theorem onlyTheListedMicroOpsWrite : Obligations.OnlyTheListedMicroOpsWrite := by
  intro i s t h
  refine ⟨exec_nowMs h, exec_btn h, fun b hsmp => ?_, exec_lastPressDur_pending h, exec_holdClk h, exec_ev h, exec_score h,
    exec_out h, (exec_untouched h).fb, (exec_untouched h).seqPc⟩
  have keeps := exec_sameSample h b hsmp
  exact ⟨keeps.prevLevel, keeps.curLevel, keeps.pressStartedAt, keeps.lastReleaseDur⟩

/-! ### What a step does to the classifier's registers -/

/-- The configuration, the channel records and the event register are the same. -/
structure SameRegisters (s t : State) : Prop where
  cfg : t.cfg = s.cfg
  btn : t.btn = s.btn
  ev : t.ev = s.ev

theorem SameRegisters.trans {s t u : State} (h : SameRegisters s t) (h' : SameRegisters t u) : SameRegisters s u :=
  ⟨h'.cfg.trans h.cfg, h'.btn.trans h.btn, h'.ev.trans h.ev⟩

theorem sameRegisters_setTurns (s : State) (ts : List Turn) : SameRegisters s (s.setTurns ts) := ⟨rfl, rfl, rfl⟩

theorem sameRegisters_refuse (s : State) (r : Refusal) : SameRegisters s (s.refuse r) := ⟨rfl, rfl, rfl⟩

theorem sameRegisters_drawHost (s : State) : SameRegisters s (drawHost s) := by
  rw [drawHost_eq]; exact ⟨rfl, rfl, rfl⟩

theorem sameRegisters_fetch (s : State) : SameRegisters s (fetch s).2 := by
  rw [fetch_state]; exact ⟨rfl, rfl, rfl⟩

theorem sameRegisters_advancePc (i : Instr) (done : Bool) (s : State) : SameRegisters s (advancePc i done s) := by
  rw [advancePc_eq]; exact ⟨rfl, rfl, rfl⟩

theorem HostMoves.sameRegisters {u t : State} (h : HostMoves u t) : SameRegisters u t := by
  obtain ⟨q, qs, -, -, rfl⟩ | rfl := h
  · rw [hostServe_eq]; exact ⟨rfl, rfl, rfl⟩
  · exact ⟨rfl, rfl, rfl⟩

/-- All that a step can do to the classifier's registers: a RESET, one micro-op, or nothing. -/
inductive RegisterMove (s t : State) : Prop
  | reset (ts : List Turn) (turn : s.turns = .reset :: ts) (moved : t = (s.setTurns ts).applyReset)
  | perform (i : Instr) (u v : State) (before : SameRegisters s u) (performed : exec i u = .next v)
      (after : SameRegisters v t)
  | idle (same : SameRegisters s t)

theorem SeqMoves.registerMove {s u t : State} (hu : SameRegisters s u) (h : SeqMoves u t) : RegisterMove s t := by
  have hfetch := hu.trans (sameRegisters_fetch u)
  obtain ⟨-, ⟨i, v, -, hv, rfl⟩ | ⟨-, -, rfl⟩⟩ := h
  · exact .perform i _ v hfetch hv (sameRegisters_advancePc ..)
  · exact .idle (hfetch.trans (sameRegisters_refuse ..))

theorem IssueMoves.registerMove {w : Word} {s u t : State} (hu : SameRegisters s u) (h : IssueMoves w u t) :
    RegisterMove s t := by
  obtain ⟨-, ⟨i, -, ht⟩ | ⟨-, -, rfl⟩⟩ := h
  · exact .perform i u t hu ht ⟨rfl, rfl, rfl⟩
  · exact .idle (hu.trans (sameRegisters_refuse ..))

theorem step_registerMove {s t : State} (h : step s = .next t) : RegisterMove s t := by
  rcases step_cases h with ⟨ts, hts, ht⟩ | ⟨w, ts, -, hw⟩ | ⟨ts, -, hh⟩ | ⟨ts, -, hq⟩ | ⟨-, ⟨-, hh⟩ | ⟨-, hq⟩⟩
  · exact .reset ts hts ht
  · exact hw.registerMove (sameRegisters_setTurns s ts)
  · exact .idle (((sameRegisters_setTurns s ts).trans (sameRegisters_drawHost _)).trans hh.sameRegisters)
  · exact hq.registerMove (sameRegisters_setTurns s ts)
  · exact .idle ((sameRegisters_drawHost s).trans hh.sameRegisters)
  · exact hq.registerMove (sameRegisters_drawHost s)

/-- Settles O47: RESET keeps the configuration, and no micro-op writes it. -/
theorem configurationNeverChanges : Obligations.ConfigurationNeverChanges := by
  intro s t h
  cases step_registerMove h with
  | reset ts _ moved => rw [moved]; rfl
  | perform i u v before performed after => rw [after.cfg, (exec_untouched performed).cfg, before.cfg]
  | idle same => exact same.cfg

/-! ### The event register -/

theorem evOneGroup_zero : evOneGroup 0#5 = true := by decide

theorem evOneGroup_evWord_reset : evOneGroup (evWord true noButton noButton) = true := by simp [evOneGroup]

theorem evOneGroup_evWord_dec (dec : PerButton Bool) : evOneGroup (evWord false dec noButton) = true := by simp [evOneGroup]

theorem evOneGroup_evWord_inc (inc : PerButton Bool) : evOneGroup (evWord false noButton inc) = true := by simp [evOneGroup]

/-- Each level of EVAL sets bits of its own group only. -/
theorem exec_evOneGroup {i : Instr} {s t : State} (h : exec i s = .next t) (hs : evOneGroup s.ev = true) :
    evOneGroup t.ev = true := by
  by_cases heval : i = .eval
  · subst heval
    cases exec_writes h with
    | evalReset => exact evOneGroup_evWord_reset
    | evalDecrement => exact evOneGroup_evWord_dec _
    | evalIncrement => exact evOneGroup_evWord_inc _
  · rwa [exec_ev h heval]

/-- Settles O29: RESET clears `ev`, and of the micro-ops EVAL alone writes it, one group at a time. -/
theorem eventsStayInOneGroup : Obligations.EventsStayInOneGroup := by
  intro s t hs h
  cases step_registerMove h with
  | reset ts _ moved => rw [moved]; exact evOneGroup_zero
  | perform i u v before performed after =>
    rw [after.ev]
    exact exec_evOneGroup performed (before.ev ▸ hs)
  | idle same => rwa [same.ev]

/-! ### `pending` -/

/-- What a sample makes of each field (41_classifier.md R122): `!c.curLevel && level` is the rising edge, `c.curLevel && !level`
the falling one. -/
theorem Channel.sampled_eq (now : Time) (level : Bool) (c : Channel) :
    c.sampled now level =
      { prevLevel := c.curLevel
        curLevel := level
        holdClk := if c.curLevel = level then c.holdClk else 0
        pressStartedAt := if !c.curLevel && level then now else c.pressStartedAt
        lastPressDur := if c.curLevel && !level then c.holdClk else c.lastPressDur
        lastReleaseDur := if !c.curLevel && level then c.holdClk else c.lastReleaseDur
        pending := c.pending || (!c.curLevel && level) } := by
  cases hcur : c.curLevel <;> cases level <;> simp [Channel.sampled, risingEdge, fallingEdge, hcur]

/-- A sample sets `pending` only with a rising edge, which restarts the clock (41_classifier.md R122). -/
theorem Channel.sampled_sets_pending {now : Time} {level : Bool} {c : Channel} (hc : c.pending = false)
    (hset : (c.sampled now level).pending = true) :
    (c.sampled now level).prevLevel = false ∧ (c.sampled now level).curLevel = true ∧ (c.sampled now level).holdClk = 0 := by
  rw [Channel.sampled_eq] at hset ⊢
  obtain ⟨hcur, rfl⟩ : c.curLevel = false ∧ level = true := by simpa [hc] using hset
  simp [hcur]

/-- No sample clears `pending`. -/
theorem Channel.sampled_keeps_pending {now : Time} {level : Bool} {c : Channel} (hc : c.pending = true) :
    (c.sampled now level).pending = true := by
  simp [Channel.sampled_eq, hc]

section

variable {s t : State} {b : Button}

theorem exec_smp_get (h : exec (.smp b) s = .next t) :
    t.btn.get b = (s.btn.get b).sampled s.nowMs (drawLevel b s).1 := by
  cases exec_writes h
  rw [State.setBtn_btn, PerButton.get_set_same]

/-- EVAL keeps `pending`, or clears it with the event decrement(b) (41_classifier.md R125). -/
theorem exec_eval_pending (h : exec .eval s = .next t) :
    (t.btn.get b).pending = (s.btn.get b).pending ∨
      ((t.btn.get b).pending = false ∧ evDec t.ev b = true ∧ decrementDue s.cfg (s.btn.get b) = true) := by
  cases exec_writes h with
  | evalReset | evalIncrement => rw [State.setBtn_btn, PerButton.get_map]; exact .inl rfl
  | evalDecrement =>
    rw [State.setBtn_btn, PerButton.get_map, Channel.afterDecrement_eq]
    cases hdue : decrementDue s.cfg (s.btn.get b) with
    | false => exact .inl (by simp)
    | true => exact .inr ⟨by simp, by simp [hdue], rfl⟩

theorem exec_sets_pending {i : Instr} (h : exec i s = .next t) (hs : (s.btn.get b).pending = false)
    (ht : (t.btn.get b).pending = true) :
    (t.btn.get b).prevLevel = false ∧ (t.btn.get b).curLevel = true ∧ (t.btn.get b).holdClk = 0 := by
  by_cases hsmp : i = .smp b
  · subst hsmp
    rw [exec_smp_get h] at ht ⊢
    exact Channel.sampled_sets_pending hs ht
  have hkept : (t.btn.get b).pending = false := by
    by_cases heval : i = .eval
    · subst heval
      obtain hsame | ⟨hclear, -⟩ := exec_eval_pending (b := b) h
      · exact hsame.trans hs
      · exact hclear
    · exact (exec_lastPressDur_pending h b hsmp heval).2.trans hs
  exact absurd (hkept.symm.trans ht) Bool.false_ne_true

theorem exec_clears_pending {i : Instr} (h : exec i s = .next t) (hs : (s.btn.get b).pending = true)
    (ht : (t.btn.get b).pending = false) : evDec t.ev b = true ∧ decrementDue s.cfg (s.btn.get b) = true := by
  have changed : (t.btn.get b).pending ≠ (s.btn.get b).pending := by simp [hs, ht]
  by_cases heval : i = .eval
  · subst heval
    obtain hsame | ⟨-, hcleared⟩ := exec_eval_pending (b := b) h
    · exact absurd hsame changed
    · exact hcleared
  by_cases hsmp : i = .smp b
  · subst hsmp
    rw [exec_smp_get h, Channel.sampled_keeps_pending hs] at ht
    cases ht
  · exact absurd (exec_lastPressDur_pending h b hsmp heval).2 changed

end

/-- Level 2's condition, taken apart (41_classifier.md R121, R125). -/
theorem decrementDue_iff {cfg : Config} {c : Channel} :
    decrementDue cfg c = true ↔ c.curLevel = true ∧ cfg.tDec < c.holdClk.toNat ∧ c.pending = true := by
  simp [decrementDue, heldOver, and_assoc]

/-- RESET clears `pending` of both buttons. -/
theorem State.applyReset_pending (s : State) (b : Button) : (s.applyReset.btn.get b).pending = false := by cases b <;> rfl

/-- Settles O21: SMP alone sets `pending`, with a rising edge; apart from RESET, EVAL's level 2 alone clears it. -/
theorem pendingIsSetByPressClearedByDecrement : Obligations.PendingIsSetByPressClearedByDecrement := by
  intro s t b h
  cases step_registerMove h with
  | reset ts turn moved =>
    subst moved
    refine ⟨fun _ ht => ?_, fun _ _ => .inl (by rw [turn]; rfl)⟩
    exact absurd ((State.applyReset_pending _ b).symm.trans ht) Bool.false_ne_true
  | perform i u v before performed after =>
    rw [after.btn, after.ev, ← before.btn, ← before.cfg]
    refine ⟨exec_sets_pending performed, fun hs ht => .inr ?_⟩
    obtain ⟨hdec, hdue⟩ := exec_clears_pending performed hs ht
    obtain ⟨hlevel, hheld, -⟩ := decrementDue_iff.mp hdue
    exact ⟨hdec, hlevel, hheld⟩
  | idle same =>
    rw [same.btn]
    exact ⟨fun hs ht => absurd (hs.symm.trans ht) Bool.false_ne_true,
      fun hs ht => absurd (ht.symm.trans hs) Bool.false_ne_true⟩

end Sys2Proof.Machine
end

section
/-! Forgetting the time stamps and the time base commutes with all that a step does (10_state.md R24, R26, R28). -/

namespace Sys2Proof.Machine

/-! ### Reads and one-field moves -/

@[simp] theorem State.forgetStamps_forgetStamps (s : State) : s.forgetStamps.forgetStamps = s.forgetStamps := rfl

@[simp] theorem forgetOutcome_forgetOutcome (o : Host.Outcome State Fault Refusal) :
    forgetOutcome (forgetOutcome o) = forgetOutcome o := by
  cases o <;> rfl

theorem stopped_forgetStamps (s : State) : stopped s.forgetStamps = stopped s := stopped_congr rfl rfl rfl

theorem drawDt_forgetStamps (s : State) : drawDt s.forgetStamps = ((drawDt s).1, (drawDt s).2.forgetStamps) := by
  cases hd : s.env.dts with
  | nil => rw [drawDt_nil hd, drawDt_nil (s := s.forgetStamps) hd]; rfl
  | cons d ds => rw [drawDt_cons hd, drawDt_cons (s := s.forgetStamps) hd]; rfl

theorem drawLevel_forgetStamps (b : Button) (s : State) :
    drawLevel b s.forgetStamps = ((drawLevel b s).1, (drawLevel b s).2.forgetStamps) := by
  cases hl : s.env.levels.get b with
  | nil => rw [drawLevel_nil hl, drawLevel_nil (s := s.forgetStamps) hl]; rfl
  | cons l ls => rw [drawLevel_cons hl, drawLevel_cons (s := s.forgetStamps) hl]; rfl

theorem fetch_forgetStamps (s : State) : fetch s.forgetStamps = ((fetch s).1, (fetch s).2.forgetStamps) := by
  unfold fetch
  rw [show s.forgetStamps.seqPc = s.seqPc from rfl, drawDt_forgetStamps]
  split <;> rfl

theorem advancePc_forgetStamps (i : Instr) (done : Bool) (s : State) :
    (advancePc i done s).forgetStamps = advancePc i done s.forgetStamps := by
  unfold advancePc
  rw [show s.forgetStamps.fault = s.fault from rfl]
  split
  · rfl
  · split <;> rfl

/-! ### The micro-ops -/

/-- A sample's record, the stamps apart, depends neither on the time nor on the old stamps. -/
theorem Channel.forget_sampled (now now' : Time) (level : Bool) (c : Channel) :
    (c.forget.sampled now level).forget = (c.sampled now' level).forget := by
  rw [Channel.sampled_eq, Channel.sampled_eq]
  rfl

theorem PerButton.map_set {α β : Type} (f : α → β) (v : PerButton α) (b : Button) (x : α) :
    (v.set b x).map f = (v.map f).set b (f x) := by
  cases b <;> rfl

theorem forgetStamps_setBtn (s : State) (v : PerButton Channel) :
    (s.setBtn v).forgetStamps = s.forgetStamps.setBtn (v.map Channel.forget) := rfl

theorem forgetStamps_setEnv (s : State) (e : Env) : (s.setEnv e).forgetStamps = s.forgetStamps.setEnv e := rfl

theorem execSmp_forgetStamps (b : Button) (s : State) :
    forgetOutcome (execSmp b s.forgetStamps) = forgetOutcome (execSmp b s) := by
  have record (level : Bool) :
      ((s.forgetStamps.btn.get b).sampled s.forgetStamps.nowMs level).forget =
        ((s.btn.get b).sampled s.nowMs level).forget := by
    rw [State.forgetStamps, PerButton.get_map]
    exact Channel.forget_sampled ..
  rw [execSmp_eq, execSmp_eq, drawLevel_forgetStamps]
  simp only [forgetOutcome, forgetStamps_setBtn, forgetStamps_setEnv, PerButton.map_set, record]
  rfl

theorem Channel.afterDecrement_forget (cfg : Config) (c : Channel) :
    c.forget.afterDecrement cfg = (c.afterDecrement cfg).forget := by
  rw [Channel.afterDecrement_eq, Channel.afterDecrement_eq]
  rfl

theorem execEval_forgetStamps (s : State) : execEval s.forgetStamps = forgetOutcome (execEval s) := by
  unfold execEval
  rw [show evalLevel s.forgetStamps = evalLevel s from rfl]
  cases evalLevel s with
  | reset => rfl
  | decrement =>
    have records : s.forgetStamps.btn.map (Channel.afterDecrement s.cfg) =
        (s.btn.map (Channel.afterDecrement s.cfg)).map Channel.forget :=
      PerButton.ext_get fun b => by
        simp only [State.forgetStamps, PerButton.get_map, Channel.afterDecrement_forget]
    simp only [forgetOutcome, forgetStamps_setBtn, ← records]
    rfl
  | increment => rfl

/-- Doing nothing or doing `f` commutes with forgetting when `f` does. -/
theorem whenEvent_forgetStamps {f : State → State} (hf : ∀ s, f s.forgetStamps = (f s).forgetStamps) (bit : Bool) (s : State) :
    whenEvent bit f s.forgetStamps = (whenEvent bit f s).forgetStamps := by
  cases bit
  · rfl
  · exact hf s

theorem applyEvents_forgetStamps (s : State) : s.forgetStamps.applyEvents = s.applyEvents.forgetStamps := by
  unfold State.applyEvents
  simp only [whenEvent_forgetStamps (f := State.clearScores) fun _ => rfl,
    whenEvent_forgetStamps (f := (State.dropScore · _)) fun _ => rfl,
    whenEvent_forgetStamps (f := (State.bumpScore · _)) fun _ => rfl]
  rfl

theorem execGuard_forgetStamps (s : State) : execGuard s.forgetStamps = forgetOutcome (execGuard s) := by
  rw [execGuard_eq, execGuard_eq]
  rfl

theorem execShift_forgetStamps (ch : BitVec 2) (p : BitVec 4) (col : BitVec 6) (s : State) :
    execShift ch p col s.forgetStamps = forgetOutcome (execShift ch p col s) := by
  unfold execShift
  cases chanOf ch <;> rfl

theorem execLatch_forgetStamps (s : State) : execLatch s.forgetStamps = forgetOutcome (execLatch s) := by
  cases hoe : s.out.oeN with
  | true => rw [execLatch_blank hoe, execLatch_blank (s := s.forgetStamps) hoe]; rfl
  | false => rw [execLatch_enabled hoe, execLatch_enabled (s := s.forgetStamps) hoe]; rfl

theorem execSetaddr_forgetStamps (p : BitVec 4) (s : State) :
    execSetaddr p s.forgetStamps = forgetOutcome (execSetaddr p s) := by
  cases hoe : s.out.oeN with
  | true => rw [execSetaddr_blank hoe, execSetaddr_blank (s := s.forgetStamps) hoe]; rfl
  | false => rw [execSetaddr_enabled hoe, execSetaddr_enabled (s := s.forgetStamps) hoe]; rfl

/-- ADV and SMP write new stamps, which are forgotten in their turn; every other micro-op commutes with
forgetting. -/
theorem exec_forgetStamps (i : Instr) (s : State) : forgetOutcome (exec i s.forgetStamps) = forgetOutcome (exec i s) := by
  have settled {o o' : Host.Outcome State Fault Refusal} (h : o' = forgetOutcome o) : forgetOutcome o' = forgetOutcome o :=
    h ▸ forgetOutcome_forgetOutcome o
  cases i with
  | smp b => exact execSmp_forgetStamps b s
  | eval => exact settled (execEval_forgetStamps s)
  | guard => exact settled (execGuard_forgetStamps s)
  | apply => exact congrArg (fun t => Host.Outcome.next t.forgetStamps) (applyEvents_forgetStamps s)
  | shift ch p col => exact settled (execShift_forgetStamps ch p col s)
  | latch => exact settled (execLatch_forgetStamps s)
  | setaddr p => exact settled (execSetaddr_forgetStamps p s)
  | _ => rfl

/-! ### The movers -/

theorem performAndAdvance_forgetStamps (i : Instr) (s : State) :
    forgetOutcome (performAndAdvance i s.forgetStamps) = forgetOutcome (performAndAdvance i s) := by
  obtain ⟨t, ht⟩ := exec_answers i s
  obtain ⟨t', ht'⟩ := exec_answers i s.forgetStamps
  have same : t'.forgetStamps = t.forgetStamps := by
    have h := exec_forgetStamps i s
    rw [ht, ht'] at h
    exact Host.Outcome.next.inj h
  simp only [performAndAdvance, ht, ht', forgetOutcome, advancePc_forgetStamps, same]
  rfl

theorem seqStep_forgetStamps (s : State) : forgetOutcome (seqStep s.forgetStamps) = forgetOutcome (seqStep s) := by
  unfold seqStep
  rw [stopped_forgetStamps, fetch_forgetStamps]
  cases stopped s with
  | some o => rfl
  | none =>
    cases decode (fetch s).1 with
    | ok i => exact performAndAdvance_forgetStamps i (fetch s).2
    | invalid why => rfl

theorem issueWord_forgetStamps (w : Word) (s : State) :
    forgetOutcome (issueWord w s.forgetStamps) = forgetOutcome (issueWord w s) := by
  unfold issueWord
  rw [stopped_forgetStamps]
  cases stopped s with
  | some o => rfl
  | none =>
    cases decode w with
    | ok i => exact exec_forgetStamps i s
    | invalid why => rfl

theorem drawHost_forgetStamps (s : State) : drawHost s.forgetStamps = (drawHost s).forgetStamps := by
  cases hq : s.host with
  | nil => rw [drawHost_nil hq, drawHost_nil (s := s.forgetStamps) hq]; rfl
  | cons q qs => rw [drawHost_cons hq, drawHost_cons (s := s.forgetStamps) hq]

theorem hostServe_forgetStamps (s : State) (q : HostReq) : hostServe s.forgetStamps q = (hostServe s q).forgetStamps := by
  cases q with
  | fbWrite ch r c v => simp only [hostServe]; split <;> rfl
  | renderDone => rfl
  | scoreRead b => rfl

theorem hostAdmits_forgetStamps (s : State) (q : HostReq) : hostAdmits s.forgetStamps q = hostAdmits s q :=
  hostAdmits_congr q rfl rfl rfl

theorem hostReady_forgetStamps (s : State) : hostReady s.forgetStamps = hostReady s := by
  unfold hostReady
  simp only [hostAdmits_forgetStamps]
  rfl

theorem hostTurn_forgetStamps (s : State) : hostTurn s.forgetStamps = forgetOutcome (hostTurn s) := by
  unfold hostTurn
  rw [show s.forgetStamps.host = s.host from rfl]
  cases s.host with
  | nil => rfl
  | cons q qs =>
    simp only [hostAdmits_forgetStamps]
    split
    · exact congrArg Host.Outcome.next (hostServe_forgetStamps (s.setHost qs) q)
    · rfl

theorem freeStep_forgetStamps (s : State) : forgetOutcome (freeStep s.forgetStamps) = forgetOutcome (freeStep s) := by
  unfold freeStep
  rw [hostReady_forgetStamps]
  split
  · rw [hostTurn_forgetStamps, forgetOutcome_forgetOutcome]
  · exact seqStep_forgetStamps s

/-- Settles O23: each mover's step commutes with forgetting, up to the stamps that ADV and SMP write anew. -/
theorem timeStampsAreNeverRead : Obligations.TimeStampsAreNeverRead := by
  intro s
  unfold step takeTurn
  rw [show s.forgetStamps.turns = s.turns from rfl]
  cases s.turns with
  | nil =>
    rw [drawHost_forgetStamps]
    exact freeStep_forgetStamps (drawHost s)
  | cons turn ts =>
    cases turn with
    | sequencer => exact seqStep_forgetStamps (s.setTurns ts)
    | host =>
      have h := hostTurn_forgetStamps (drawHost (s.setTurns ts))
      rw [← drawHost_forgetStamps] at h
      exact (congrArg forgetOutcome h).trans (forgetOutcome_forgetOutcome _)
    | harness w => exact issueWord_forgetStamps w (s.setTurns ts)
    | reset => rfl

end Sys2Proof.Machine
end

section
/-! What a step can do to the frame buffer, and the three cases of FBWrite (20_memory.md R60 to R64, R70). -/

namespace Sys2Proof.Machine

/-! ### A request of the host -/

/-- FBWrite's index check in numbers (20_memory.md R63). -/
theorem fbInRange_iff {ch r c : Nat} : fbInRange ch r c = true ↔ ch < 3 ∧ r < 32 ∧ c < 64 := by
  simp only [fbInRange, Bool.and_eq_true, decide_eq_true_eq, and_assoc]
  rfl

theorem hostServe_fbWrite_inRange {ch r c : Nat} (h : fbInRange ch r c = true) (s : State) (v : Bool) :
    hostServe s (.fbWrite ch r c v) = s.fbStore ch r c v := if_pos h

theorem hostServe_fbWrite_outOfRange {ch r c : Nat} (h : ¬fbInRange ch r c = true) (s : State) (v : Bool) :
    hostServe s (.fbWrite ch r c v) = s.refuse .hostIndexRange := if_neg h

/-- An FBWrite has a step when it is out of range or the render window is open. -/
theorem hostAdmits_fbWrite {s : State} {ch r c : Nat} {v : Bool} :
    hostAdmits s (.fbWrite ch r c v) = true ↔ ¬fbInRange ch r c = true ∨ windowOpen s = true := by
  simp [hostAdmits]

/-- When the render window is shut (20_memory.md R63, log 4). -/
theorem windowOpen_eq_false {s : State} :
    windowOpen s = false ↔ s.fault.isSome = true ∨ s.seqPc ≠ 6 ∨ s.renderDone = true := by
  rw [← Bool.not_eq_true, windowOpen_iff, Option.isSome_iff_ne_none, ← Bool.not_eq_false]
  tauto

@[simp] theorem drawHost_fb (s : State) : (drawHost s).fb = s.fb := by rw [drawHost_eq]

/-- The host's decision does not depend on the turns. -/
theorem drawHost_setTurns (s : State) (ts : List Turn) : drawHost (s.setTurns ts) = (drawHost s).setTurns ts := by
  cases hs : s.host with
  | nil =>
    rw [drawHost_nil hs, drawHost_nil (s := s.setTurns ts) hs]
    rfl
  | cons q qs => rw [drawHost_cons hs, drawHost_cons (s := s.setTurns ts) hs]

/-- The host's decision neither opens nor shuts the render window. -/
@[simp] theorem windowOpen_drawHost (s : State) : windowOpen (drawHost s) = windowOpen s := by
  rw [drawHost_eq]; rfl

/-- The state the host moves from differs in the host's own data and in the turns only. -/
theorem HostMovesFrom.eq_with {s u : State} (h : HostMovesFrom s u) :
    ∃ host n ts, u = { s with host := host, hostDrawn := n, turns := ts } := by
  obtain ⟨ts, -, rfl⟩ | ⟨-, rfl⟩ := h
  · exact ⟨_, _, ts, drawHost_eq _⟩
  · exact ⟨_, _, s.turns, drawHost_eq s⟩

/-- While its oldest request has no step, the host's written turn passes, and with no turn written down the sequencer moves. -/
theorem step_of_hostWaits {s u : State} {q : HostReq} {qs : List HostReq} (h : HostMovesFrom s u) (hq : u.host = q :: qs)
    (ha : hostAdmits u q = false) :
    (s.turns = [] → step s = seqStep u) ∧ (s.turns ≠ [] → step s = .next u) := by
  obtain ⟨ts, ht, rfl⟩ | ⟨ht, rfl⟩ := h
  · refine ⟨fun hn => by simp [ht] at hn, fun _ => ?_⟩
    unfold step takeTurn
    rw [ht]
    change hostTurn (drawHost { s with turns := ts }) = _
    simp [hostTurn, hq, ha]
  · have hr : hostReady (drawHost s) = false := by simp [hostReady, hq, ha]
    exact ⟨fun _ => step_of_sequencerMoves (.inr ⟨ht, hr, rfl⟩), fun hn => absurd ht hn⟩

/-! ### What a step does to the frame buffer -/

/-- From `u` to `t` the host's oldest request, an FBWrite in range, is served in the open render window. -/
def FbWritten (u t : State) : Prop :=
  windowOpen u = true ∧ ∃ ch r c v qs, u.host = .fbWrite ch r c v :: qs ∧ (ch < 3 ∧ r < 32 ∧ c < 64) ∧ t.host = qs ∧
    t.fb = Memory.write u.fb (fbIndex ch r c) (fbCell v)

theorem HostMoves.fb_eq_or_written {u t : State} (h : HostMoves u t) : t.fb = u.fb ∨ FbWritten u t := by
  obtain ⟨q, qs, hq, ha, rfl⟩ | rfl := h
  · cases q with
    | fbWrite ch r c v =>
      by_cases hin : fbInRange ch r c = true
      · rw [hostServe_fbWrite_inRange hin]
        have hopen : windowOpen u = true := (hostAdmits_fbWrite.mp ha).resolve_left (not_not_intro hin)
        exact .inr ⟨hopen, ch, r, c, v, qs, hq, fbInRange_iff.mp hin, rfl, rfl⟩
      · rw [hostServe_fbWrite_outOfRange hin]
        exact .inl rfl
    | renderDone => exact .inl rfl
    | scoreRead b => exact .inl rfl
  · exact .inl rfl

theorem SeqMoves.fb_eq {u t : State} (h : SeqMoves u t) : t.fb = u.fb := by
  have hfetch : (fetch u).2.fb = u.fb := by rw [fetch_state]; rfl
  obtain ⟨-, ⟨i, v, -, hv, rfl⟩ | ⟨-, -, rfl⟩⟩ := h
  · rw [advancePc_eq]
    exact (exec_untouched hv).fb.trans hfetch
  · exact hfetch

theorem IssueMoves.fb_eq {w : Word} {u t : State} (h : IssueMoves w u t) : t.fb = u.fb := by
  obtain ⟨-, ⟨i, -, ht⟩ | ⟨-, -, rfl⟩⟩ := h
  · exact (exec_untouched ht).fb
  · rfl

/-- All that a step can do to the frame buffer: RESET clears it, an FBWrite in the render window writes it, and any other step
leaves it alone (20_memory.md R61, R64). -/
theorem step_fb {s t : State} (h : step s = .next t) :
    (s.turns.head? = some .reset ∧ t.fb = []) ∨ t.fb = s.fb ∨ FbWritten (drawHost s) t := by
  rcases step_cases h with ⟨ts, hts, rfl⟩ | ⟨w, ts, -, hw⟩ | ⟨ts, -, hh⟩ | ⟨ts, -, hq⟩ | ⟨-, ⟨-, hh⟩ | ⟨-, hq⟩⟩
  · exact .inl ⟨by rw [hts]; rfl, rfl⟩
  · exact .inr (.inl hw.fb_eq)
  · rw [drawHost_setTurns] at hh
    exact .inr (hh.fb_eq_or_written.imp_left (·.trans (drawHost_fb s)))
  · exact .inr (.inl hq.fb_eq)
  · exact .inr (hh.fb_eq_or_written.imp_left (·.trans (drawHost_fb s)))
  · exact .inr (.inl (hq.fb_eq.trans (drawHost_fb s)))

theorem Memory.wf_nil : Memory.wf [] := ⟨.nil, nofun⟩

/-- Settles O45: a step clears the frame buffer, keeps it, or writes one bit inside it. -/
theorem frameBufferStaysCanonical : Obligations.FrameBufferStaysCanonical := by
  intro s t hwf h
  obtain ⟨-, ht⟩ | ht | ⟨-, ch, r, c, v, qs, -, ⟨hch, hr, hc⟩, -, ht⟩ := step_fb h
  · rw [ht]; exact Memory.wf_nil
  · rw [ht]; exact hwf
  · rw [ht, drawHost_fb]
    exact Memory.write_wf hwf (fbIndex_lt hch hr hc) v

/-- Settles O44: without a RESET, `step_fb` leaves only the served FBWrite. -/
theorem frameBufferChangesByFbWriteOnly : Obligations.FrameBufferChangesByFbWriteOnly := by
  intro s t h hreset
  obtain ⟨hhead, -⟩ | ht | ⟨hopen, ch, r, c, v, qs, hq, ⟨hch, hr, hc⟩, hqs, ht⟩ := step_fb h
  · exact absurd hhead hreset
  · exact .inl ht
  · rw [windowOpen_drawHost] at hopen
    rw [drawHost_fb] at ht
    obtain ⟨hfault, hpc, hdone⟩ := windowOpen_iff.mp hopen
    exact .inr ⟨hfault, hpc, hdone, ch, r, c, v, qs, hq, hch, hr, hc, hqs, ht⟩

/-! ### The three cases of FBWrite -/

/-- A store leaves every other bit of the frame buffer alone. -/
theorem State.fbRead_fbStore_other (s : State) {ch r c ch' r' c' : Nat} (v : Bool) (hr : r < 32) (hc : c < 64)
    (hr' : r' < 32) (hc' : c' < 64) (hne : (ch', r', c') ≠ (ch, r, c)) :
    (s.fbStore ch r c v).fbRead ch' r' c' = s.fbRead ch' r' c' := by
  have hindex : fbIndex ch r c ≠ fbIndex ch' r' c' := fun e => by
    obtain ⟨rfl, rfl, rfl⟩ := fbIndex_inj hr hc hr' hc' e
    exact hne rfl
  unfold State.fbRead
  rw [State.read_fbStore_other s ch r c v hindex]

/-- Settles O41: out of range and in the open window the request is served, and otherwise it waits. -/
theorem fbWriteFollowsItsRule : Obligations.FbWriteFollowsItsRule := by
  intro s u ch r c v qs h hq
  obtain ⟨host, n, ts, rfl⟩ := h.eq_with
  refine ⟨fun hout => ?_, fun hch hr hc hshut => ?_, fun hch hr hc hwf hfault hpc hdone => ?_⟩
  · have hin : ¬fbInRange ch r c = true := by rw [fbInRange_iff]; omega
    rw [step_of_hostMoves h hq (hostAdmits_fbWrite.mpr (.inl hin)), hostServe_fbWrite_outOfRange hin]
    rfl
  · have hin : fbInRange ch r c = true := fbInRange_iff.mpr ⟨hch, hr, hc⟩
    refine step_of_hostWaits h hq (Bool.eq_false_iff.mpr fun ha => ?_)
    have hopen := (hostAdmits_fbWrite.mp ha).resolve_left (not_not_intro hin)
    exact Bool.false_ne_true ((windowOpen_eq_false.mpr hshut).symm.trans hopen)
  · have hin : fbInRange ch r c = true := fbInRange_iff.mpr ⟨hch, hr, hc⟩
    have hstep := step_of_hostMoves h hq (hostAdmits_fbWrite.mpr (.inr (windowOpen_iff.mpr ⟨hfault, hpc, hdone⟩)))
    rw [hostServe_fbWrite_inRange hin] at hstep
    exact ⟨_, hstep, State.fbRead_fbStore_same hwf ch r c v, rfl, rfl,
      fun a ha => State.read_fbStore_other s ch r c v ha.symm,
      fun ch' r' c' hr' hc' hne => State.fbRead_fbStore_other s v hr hc hr' hc' hne,
      ⟨rfl, rfl, rfl⟩, rfl, ⟨rfl, rfl⟩, ⟨rfl, rfl⟩, ⟨rfl, rfl⟩, rfl, rfl, rfl, rfl⟩

end Sys2Proof.Machine
end

section
/-! The fields of the five word formats, and the decoder against the encoder and the opcode table (30_encoding.md R81 to R89). -/

namespace Sys2Proof

open Sys2Proof.Machine

/-! ### The fields of the formats (R81) -/

/-- A bit field of `w` is `x ++ y` when its upper part is `x` and its lower part `y`. -/
theorem extractLsb'_eq_append_iff {k n m s : Nat} {w : BitVec k} {x : BitVec n} {y : BitVec m} :
    w.extractLsb' s (n + m) = x ++ y ↔ w.extractLsb' (s + m) n = x ∧ w.extractLsb' s m = y := by
  constructor
  · intro h
    rw [← BitVec.extractLsb'_append_extractLsb'_eq_extractLsb' (start₂ := s + m) rfl] at h
    have hhigh := congrArg (BitVec.extractLsb' m n) h
    have hlow := congrArg (BitVec.extractLsb' 0 m) h
    rw [BitVec.extractLsb'_append_eq_left, BitVec.extractLsb'_append_eq_left] at hhigh
    rw [BitVec.extractLsb'_append_eq_right, BitVec.extractLsb'_append_eq_right] at hlow
    exact ⟨hhigh, hlow⟩
  · rintro ⟨rfl, rfl⟩
    exact (BitVec.extractLsb'_append_extractLsb'_eq_extractLsb' rfl).symm

theorem bitVec_append_eq_iff {n m : Nat} {w : BitVec (n + m)} {x : BitVec n} {y : BitVec m} :
    x ++ y = w ↔ w.extractLsb' m n = x ∧ w.extractLsb' 0 m = y := by
  rw [eq_comm, ← BitVec.extractLsb'_eq_self (x := w), extractLsb'_eq_append_iff, BitVec.extractLsb'_eq_self, Nat.zero_add]

variable {w : Word} {op : BitVec 4}

theorem formatT_eq_iff {dt : Dt} : formatT op dt = w ↔ opField w = op ∧ dtField w = dt := bitVec_append_eq_iff

theorem formatN_eq_iff : formatN op = w ↔ opField w = op ∧ dtField w = 0#12 := bitVec_append_eq_iff

theorem formatB_eq_iff {b : Button} :
    formatB op b = w ↔ opField w = op ∧ buttonZeros w = 0#11 ∧ buttonField w = buttonBit b :=
  (bitVec_append_eq_iff (n := 4 + 11)).trans ((and_congr_left' extractLsb'_eq_append_iff).trans and_assoc)

theorem formatS_eq_iff {ch : BitVec 2} {p : BitVec 4} {col : BitVec 6} :
    formatS op ch p col = w ↔ opField w = op ∧ chField w = ch ∧ pField w = p ∧ colField w = col := by
  refine (bitVec_append_eq_iff (n := 4 + 2 + 4)).trans ?_
  rw [extractLsb'_eq_append_iff, extractLsb'_eq_append_iff, and_assoc, and_assoc]
  rfl

theorem formatA_eq_iff {p : BitVec 4} :
    formatA op p = w ↔ opField w = op ∧ chField w = 0#2 ∧ pField w = p ∧ colField w = 0#6 := formatS_eq_iff

theorem buttonBit_buttonOf (x : BitVec 1) : buttonBit (buttonOf x) = x := by revert x; decide

/-! ### Decoding and encoding (R87 to R89) -/

theorem decode_encode {i : Instr} (h : wellFormed i = true) : decode (encode i) = .ok i := by
  cases i with
  | adv dt =>
    obtain ⟨hop, hdt⟩ := formatT_eq_iff.mp (show encode (.adv dt) = _ from rfl)
    simp [decode, hop, hdt]
  | shift ch p col =>
    obtain ⟨hop, hch, hp, hcol⟩ := formatS_eq_iff.mp (show encode (.shift ch p col) = _ from rfl)
    have hne : ch ≠ 3#2 := bne_iff_ne.mp h
    simp [decode, hop, hch, hp, hcol, hne]
  | setaddr p =>
    obtain ⟨hop, hch, hp, hcol⟩ := formatA_eq_iff.mp (show encode (.setaddr p) = _ from rfl)
    simp [decode, whenZero, hop, hch, hp, hcol]
  | smp b | inc b | dec b => cases b <;> rfl
  | eval | guard | apply | rwait | rstall | blank | latch | unblank => rfl

theorem whenZero_eq_ok_iff {zeros : Bool} {i j : Instr} : whenZero zeros i = .ok j ↔ zeros = true ∧ i = j := by
  unfold whenZero
  split <;> simp [*]

/-- A format N row of the decoder answers a micro-op for that micro-op's word only. -/
theorem encode_of_formatN_row {i j : Instr} (h : whenZero (dtField w == 0#12) i = .ok j) (hi : encode i = formatN op)
    (hwf : wellFormed i = true) (hop : (opField w).toNat = op.toNat) : encode j = w ∧ wellFormed j = true := by
  obtain ⟨hz, rfl⟩ := whenZero_eq_ok_iff.mp h
  exact ⟨hi.trans (formatN_eq_iff.mpr ⟨BitVec.eq_of_toNat_eq hop, eq_of_beq hz⟩), hwf⟩

/-- A format B row of the decoder answers a micro-op for that micro-op's word only. -/
theorem encode_of_formatB_row {i j : Instr} (h : whenZero (buttonZeros w == 0#11) i = .ok j)
    (hi : encode i = formatB op (buttonOf (buttonField w))) (hwf : wellFormed i = true)
    (hop : (opField w).toNat = op.toNat) : encode j = w ∧ wellFormed j = true := by
  obtain ⟨hz, rfl⟩ := whenZero_eq_ok_iff.mp h
  exact ⟨hi.trans (formatB_eq_iff.mpr ⟨BitVec.eq_of_toNat_eq hop, eq_of_beq hz, (buttonBit_buttonOf _).symm⟩), hwf⟩

/-- The decoder's rows by format: row 1 is ADV's, row 10 SHIFT's, row 13 SETADDR's, row 15 the reserved opcodes'. -/
theorem encode_of_decode {i : Instr} (h : decode w = .ok i) : encode i = w ∧ wellFormed i = true := by
  unfold decode at h
  split at h <;> rename_i hop
  case h_1 =>
    cases h
    exact ⟨formatT_eq_iff.mpr ⟨BitVec.eq_of_toNat_eq hop, rfl⟩, rfl⟩
  case h_10 =>
    split at h <;> cases h
    exact ⟨formatS_eq_iff.mpr ⟨BitVec.eq_of_toNat_eq hop, rfl, rfl, rfl⟩, bne_iff_ne.mpr ‹_›⟩
  case h_13 =>
    obtain ⟨hz, rfl⟩ := whenZero_eq_ok_iff.mp h
    obtain ⟨hch, hcol⟩ := (Bool.and_eq_true _ _).mp hz
    exact ⟨formatA_eq_iff.mpr ⟨BitVec.eq_of_toNat_eq hop, eq_of_beq hch, rfl, eq_of_beq hcol⟩, rfl⟩
  case h_15 => cases h
  case h_2 | h_7 | h_8 => exact encode_of_formatB_row h rfl rfl hop
  all_goals exact encode_of_formatN_row h rfl rfl hop

theorem decode_eq_ok_iff {i : Instr} : decode w = .ok i ↔ encode i = w ∧ wellFormed i = true :=
  ⟨encode_of_decode, fun ⟨hw, h⟩ => hw ▸ decode_encode h⟩

/-! ### The opcode table (R87) -/

/-- The mask and match of the opcode table's row with the given mnemonic. -/
def tableRow : String → Option (Word × Word)
  | "ADV" => some (0xF000#16, 0x1000#16)
  | "SMP" => some (0xFFFE#16, 0x2000#16)
  | "EVAL" => some (0xFFFF#16, 0x3000#16)
  | "GUARD" => some (0xFFFF#16, 0x4000#16)
  | "APPLY" => some (0xFFFF#16, 0x5000#16)
  | "RWAIT" => some (0xFFFF#16, 0x6000#16)
  | "INC" => some (0xFFFE#16, 0x7000#16)
  | "DEC" => some (0xFFFE#16, 0x8000#16)
  | "RSTALL" => some (0xFFFF#16, 0x9000#16)
  | "SHIFT" => some (0xF000#16, 0xA000#16)
  | "BLANK" => some (0xFFFF#16, 0xB000#16)
  | "LATCH" => some (0xFFFF#16, 0xC000#16)
  | "SETADDR" => some (0xFC3F#16, 0xD000#16)
  | "UNBLANK" => some (0xFFFF#16, 0xE000#16)
  | _ => none

theorem tableRow_mnemonic (i : Instr) : tableRow (mnemonic i) = some (rowMask i, rowMatch i) := by
  cases i <;> rfl

theorem row_eq_of_mnemonic_eq {i j : Instr} (h : mnemonic i = mnemonic j) : rowMask i = rowMask j ∧ rowMatch i = rowMatch j := by
  have hrow := congrArg tableRow h
  rw [tableRow_mnemonic, tableRow_mnemonic] at hrow
  exact Prod.mk.inj (Option.some.inj hrow)

open Laws.MatchesRow in
theorem encode_matches_row (i : Instr) : encode i &&& rowMask i = rowMatch i := by
  cases i with
  | adv dt => exact adv dt
  | smp b => exact smp b
  | eval => exact eval
  | guard => exact guard
  | apply => exact apply
  | rwait => exact rwait
  | inc b => exact inc b
  | dec b => exact dec b
  | rstall => exact rstall
  | shift ch p col => exact shift ch p col
  | blank => exact blank
  | latch => exact latch
  | setaddr p => exact setaddr p
  | unblank => exact unblank

/-- A field whose bits are all in the mask is the match's field. -/
theorem field_of_masked {s n : Nat} {mask m : Word} {x : BitVec n} (h : w &&& mask = m)
    (hmask : mask.extractLsb' s n = BitVec.allOnes n) (hm : m.extractLsb' s n = x) : w.extractLsb' s n = x := by
  rw [← hm, ← h, BitVec.extractLsb'_and, hmask, BitVec.and_allOnes]

/-- The words of format T's and format S's rows are those with the row's opcode. -/
theorem opField_of_masked {m : Word} (h : w &&& 0xF000#16 = m) (hm : opField m = op) : opField w = op :=
  field_of_masked h (by decide) hm

/-- The words of format B's rows are those with the row's opcode and no must-be-zero bit set. -/
theorem formatB_of_masked {m : Word} (h : w &&& 0xFFFE#16 = m) (hop : opField m = op) (hzeros : buttonZeros m = 0#11) :
    formatB op (buttonOf (buttonField w)) = w :=
  formatB_eq_iff.mpr
    ⟨field_of_masked h (by decide) hop, field_of_masked h (by decide) hzeros, (buttonBit_buttonOf _).symm⟩

/-- A row whose mask is all ones, as format N's are, has one word. -/
theorem encode_of_full_mask {j : Instr} (hmask : rowMask j = BitVec.allOnes 16) (h : w &&& rowMask j = rowMatch j) :
    encode j = w := by
  have hj := encode_matches_row j
  rw [hmask, BitVec.and_allOnes] at h hj
  exact hj.trans h.symm

theorem exists_encode_of_matches_row {j : Instr} (h : w &&& rowMask j = rowMatch j) :
    ∃ i, encode i = w ∧ mnemonic i = mnemonic j := by
  cases j with
  | adv dt => exact ⟨.adv _, formatT_eq_iff.mpr ⟨opField_of_masked (m := 0x1000#16) h rfl, rfl⟩, rfl⟩
  | shift ch p col =>
    exact ⟨.shift _ _ _, formatS_eq_iff.mpr ⟨opField_of_masked (m := 0xA000#16) h rfl, rfl, rfl, rfl⟩, rfl⟩
  | setaddr p =>
    replace h : w &&& 0xFC3F#16 = 0xD000#16 := h
    have hch : chField w = 0#2 := field_of_masked h (by decide) (by decide)
    have hcol : colField w = 0#6 := field_of_masked h (by decide) (by decide)
    exact ⟨.setaddr _, formatA_eq_iff.mpr ⟨field_of_masked h (by decide) (by decide), hch, rfl, hcol⟩, rfl⟩
  | smp b => exact ⟨.smp _, formatB_of_masked (m := 0x2000#16) h rfl rfl, rfl⟩
  | inc b => exact ⟨.inc _, formatB_of_masked (m := 0x7000#16) h rfl rfl, rfl⟩
  | dec b => exact ⟨.dec _, formatB_of_masked (m := 0x8000#16) h rfl rfl, rfl⟩
  | eval | guard | apply | rwait | rstall | blank | latch | unblank => exact ⟨_, encode_of_full_mask rfl h, rfl⟩

theorem wellFormed_iff {i : Instr} : wellFormed i = true ↔ (mnemonic i = "SHIFT" → chField (encode i) ≠ 3#2) := by
  cases i with
  | shift ch p col =>
    obtain ⟨-, hch, -⟩ := formatS_eq_iff.mp (show encode (.shift ch p col) = _ from rfl)
    simp [wellFormed, mnemonic, hch]
  | _ => simp [wellFormed, mnemonic]

/-! ### The words that spell no micro-op (R88) -/

theorem whenZero_of_false {zeros : Bool} (h : zeros = false) (i : Instr) : whenZero zeros i = .invalid .mustBeZero := by
  rw [h]; rfl

/-- The opcodes of format N all check the same must-be-zero field. -/
theorem decode_of_formatN_op (h : opField w ∈ [0x3#4, 0x4#4, 0x5#4, 0x6#4, 0x9#4, 0xB#4, 0xC#4, 0xE#4]) :
    ∃ i, decode w = whenZero (dtField w == 0#12) i := by
  simp only [List.mem_cons, List.not_mem_nil, or_false] at h
  rcases h with h | h | h | h | h | h | h | h <;> exact ⟨_, by unfold decode; rw [h]; rfl⟩

/-- The opcodes of format B all check the same must-be-zero field. -/
theorem decode_of_formatB_op (h : opField w ∈ [0x2#4, 0x7#4, 0x8#4]) : ∃ i, decode w = whenZero (buttonZeros w == 0#11) i := by
  simp only [List.mem_cons, List.not_mem_nil, or_false] at h
  rcases h with h | h | h <;> exact ⟨_, by unfold decode; rw [h]; rfl⟩

end Sys2Proof
end

section
/-! The statements about the decoder and the encoder (30_encoding.md R80 to R89). -/

namespace Sys2Proof

open Sys2Proof.Machine

/-- Settles O1: the fields of each format are the operands it was built from. -/
theorem decodeOfEncodeIsTheMicroOp : Obligations.DecodeOfEncodeIsTheMicroOp := fun _ => decode_encode

/-- Settles O2: each row of the decoder answers a micro-op only when the row's format rebuilds the word from its fields. -/
theorem encodeOfDecodeIsTheWord : Obligations.EncodeOfDecodeIsTheWord := fun _ _ => encode_of_decode

/-- Settles O3: a word decodes exactly when it is the word of a well-formed micro-op, the words of a row's micro-ops are those that
match the row, and the row's extra condition is well-formedness. -/
theorem wordsMatchTheirTableRow : Obligations.WordsMatchTheirTableRow := by
  intro w j _
  constructor
  · rintro ⟨i, hi, hm⟩
    obtain ⟨rfl, hwf⟩ := decode_eq_ok_iff.mp hi
    obtain ⟨hmask, hmatch⟩ := row_eq_of_mnemonic_eq hm
    exact ⟨hmask ▸ hmatch ▸ encode_matches_row i, hm ▸ wellFormed_iff.mp hwf⟩
  · rintro ⟨hrow, hextra⟩
    obtain ⟨i, rfl, hm⟩ := exists_encode_of_matches_row hrow
    exact ⟨i, decode_encode (wellFormed_iff.mpr (hm ▸ hextra)), hm⟩

/-- Settles O4: the opcode picks the decoder's row, and the row's check fails. -/
theorem reservedWordsAreInvalid : Obligations.ReservedWordsAreInvalid := by
  intro w
  refine ⟨?_, fun hop hch => ?_, fun hop hz => ?_, fun hop hz => ?_, fun hop hz => ?_⟩
  · rintro (hop | hop) <;> simp [decode, opField, hop]
  · simp [decode, opField, chField, hop, hch]
  · obtain ⟨i, hi⟩ := decode_of_formatN_op hop
    exact hi.trans (whenZero_of_false (beq_false_of_ne hz) i)
  · obtain ⟨i, hi⟩ := decode_of_formatB_op hop
    exact hi.trans (whenZero_of_false (beq_false_of_ne hz) i)
  · have hzeros : (chField w == 0#2 && colField w == 0#6) = false := by
      rw [Bool.and_eq_false_iff]
      exact hz.imp beq_false_of_ne beq_false_of_ne
    simp [decode, opField, hop, whenZero_of_false hzeros]

end Sys2Proof
end

section
/-! The pseudo-operations' words by position, the sample words and the bus word (30_encoding.md R90, R92). -/

namespace Sys2Proof.Machine

/-! ### The pseudo-operations (R92) -/

/-- Position `i` of blocks of one length `n` is position `i % n` of block `i / n`. -/
theorem getElem?_flatMap_of_length {α β : Type} {f : α → List β} {n : Nat} (hn : 0 < n) (hf : ∀ x, (f x).length = n)
    (l : List α) (i : Nat) : (l.flatMap f)[i]? = l[i / n]?.bind fun x => (f x)[i % n]? := by
  induction l generalizing i with
  | nil => rfl
  | cons x xs ih =>
    rw [List.flatMap_cons, List.getElem?_append, hf]
    split
    case isTrue h => simp [Nat.div_eq_of_lt h, Nat.mod_eq_of_lt h]
    case isFalse h =>
      have hle : n ≤ i := Nat.le_of_not_lt h
      rw [ih, Nat.div_eq_sub_div hn hle, List.getElem?_cons_succ, Nat.mod_eq_sub_mod hle]

@[simp] theorem length_shiftRow (ch : BitVec 2) (p : BitVec 4) : (shiftRow ch p).length = 64 := by simp [shiftRow]

@[simp] theorem length_subframe (ch : BitVec 2) (p : BitVec 4) : (subframe ch p).length = 68 := by simp [subframe]

@[simp] theorem length_dummy : dummy.length = 65 := by simp [dummy]

/-- The three subframes of row `p`, in the channels' order. -/
def rowSubframes (p : Nat) : List Instr := [0#2, 1#2, 2#2].flatMap fun ch => subframe ch (BitVec.ofNat 4 p)

@[simp] theorem length_rowSubframes (p : Nat) : (rowSubframes p).length = 204 := by simp [rowSubframes]

theorem scanpass_eq : scanpass = (List.range 16).flatMap rowSubframes ++ dummy := rfl

theorem length_rows : ((List.range 16).flatMap rowSubframes).length = 3264 := by simp [List.length_flatMap]

theorem length_scanpass : scanpass.length = 3329 := by simp [scanpass_eq]

theorem length_tick (dt : Dt) : (tick dt).length = 3336 := by simp [tick, classify, length_scanpass]

theorem getElem?_shiftRow (ch : BitVec 2) (p : BitVec 4) {j : Nat} (hj : j < 64) :
    (shiftRow ch p)[j]? = some (.shift ch p (BitVec.ofNat 6 j)) := by
  simp [shiftRow, List.getElem?_range hj]

theorem getElem?_subframe {k j : Nat} (hj : j < 68) :
    (subframe (BitVec.ofNat 2 (k % 3)) (BitVec.ofNat 4 (k / 3)))[j]? = some (subframeInstr k j) := by
  rw [subframe, List.getElem?_append, length_shiftRow, subframeInstr]
  by_cases h : j < 64
  · rw [if_pos h, if_pos h, getElem?_shiftRow _ _ h]
  · obtain rfl | rfl | rfl | rfl : j = 64 ∨ j = 65 ∨ j = 66 ∨ j = 67 := by omega
    all_goals rfl

theorem getElem?_dummy {j : Nat} (hj : j < 65) : dummy[j]? = some (dummyInstr j) := by
  rw [dummy, List.getElem?_append, length_shiftRow, dummyInstr]
  by_cases h : j < 64
  · rw [if_pos h, if_pos h, getElem?_shiftRow _ _ h]
  · obtain rfl : j = 64 := by omega
    rfl

/-- Position `i` of the 48 subframes is position `i % 68` of subframe `k = i / 68`, of channel `k % 3` and row `k / 3`. -/
theorem getElem?_rows {i : Nat} (hi : i < 3264) :
    ((List.range 16).flatMap rowSubframes)[i]? = some (subframeInstr (i / 68) (i % 68)) := by
  have hrow : i / 204 = i / 68 / 3 := by omega
  have hchan : i % 204 / 68 = i / 68 % 3 := by omega
  have hpos : i % 204 % 68 = i % 68 := by omega
  have hch : ∀ c < 3, [0#2, 1#2, 2#2][c]? = some (BitVec.ofNat 2 c) := by decide
  rw [getElem?_flatMap_of_length (by decide) length_rowSubframes, List.getElem?_range (by omega), Option.bind_some,
    rowSubframes, getElem?_flatMap_of_length (by decide) (fun _ => length_subframe _ _), hchan, hpos, hrow,
    hch _ (Nat.mod_lt _ (by decide)), Option.bind_some, getElem?_subframe (Nat.mod_lt _ (by decide))]

theorem getElem?_scanpass {i : Nat} (hi : i < 3329) :
    scanpass[i]? = some (if i < 3264 then subframeInstr (i / 68) (i % 68) else dummyInstr (i - 3264)) := by
  rw [scanpass_eq, List.getElem?_append, length_rows]
  split
  case isTrue h => exact getElem?_rows h
  case isFalse h => exact getElem?_dummy (by omega)

theorem length_head (dt : Dt) : (classify dt ++ [Instr.rwait]).length = 7 := rfl

theorem getElem?_head (dt : Dt) {i : Nat} (hi : i < 7) : (classify dt ++ [.rwait])[i]? = some (headInstr dt i) := by
  interval_cases i <;> rfl

/-- `TICK dt` is MP at every position (40_sequencer.md R101). -/
theorem getElem?_tick (dt : Dt) {pc : Nat} (hpc : pc < 3336) : (tick dt)[pc]? = some (mpInstr dt pc) := by
  rw [tick, List.getElem?_append, length_head, mpInstr]
  by_cases h : pc < 7
  · rw [if_pos h, if_pos h, getElem?_head dt h]
  · rw [if_neg h, if_neg h]
    have hlt : pc - 7 < 3264 ↔ pc < 3271 := by omega
    have hsub : pc - 7 - 3264 = pc - 3271 := by omega
    have hget := getElem?_scanpass (i := pc - 7) (by omega)
    rwa [if_congr hlt rfl rfl, hsub] at hget

/-- Settles O8: the pseudo-operations are blocks of fixed length, so a position of `TICK dt` is a position of one block, and MP names
the same one. -/
theorem tickIsTheMicroprogram : Obligations.TickIsTheMicroprogram :=
  ⟨length_subframe, length_dummy, length_scanpass, fun dt => ⟨rfl, length_tick dt, fun pc => getElem?_tick dt pc.isLt⟩⟩

/-! ### The bus word (R90) -/

theorem Bus.word_a (o : Bus) : o.word.extractLsb' 9 4 = o.a := by
  refine BitVec.eq_of_getLsbD_eq fun j hj => ?_
  rw [BitVec.getLsbD_extractLsb', Bus.word]
  simp only [BitVec.getLsbD_append]
  simp [hj]

theorem Bus.ofWord_word (o : Bus) : Bus.ofWord o.word = o := by
  obtain ⟨h0, h1, h2, h3, h4, h5, h6, h7, h8⟩ := Bus.word_bits o
  rw [Bus.ofWord, h0, h1, h2, h3, h4, h5, h6, h7, h8, Bus.word_a]

/-- A bus word is its lines, bit by bit. -/
theorem Bus.word_ofWord (w : BitVec 13) : (Bus.ofWord w).word = w := by
  obtain ⟨h0, h1, h2, h3, h4, h5, h6, h7, h8⟩ := Bus.word_bits (Bus.ofWord w)
  have hhigh : ∀ j < 4, (Bus.ofWord w).word.getLsbD (9 + j) = w.getLsbD (9 + j) := fun j hj => by
    have ha := congrArg (BitVec.getLsbD · j) (Bus.word_a (Bus.ofWord w))
    simpa [Bus.ofWord, hj] using ha
  refine BitVec.eq_of_getLsbD_eq fun i hi => ?_
  by_cases h : 9 ≤ i
  · obtain ⟨j, rfl⟩ := Nat.exists_eq_add_of_le h
    exact hhigh j (by omega)
  · interval_cases i <;> assumption

/-- Settles O6: `Bus.word` and `Bus.ofWord` undo each other. -/
theorem busWordLayout : Obligations.BusWordLayout := by
  refine ⟨fun o => ⟨?_, Bus.word_a o, Bus.ofWord_word o⟩, Bus.word_ofWord, rfl⟩
  obtain ⟨h0, h1, h2, h3, h4, h5, h6, h7, h8⟩ := Bus.word_bits o
  rw [h0, h1, h2, h3, h4, h5, h6, h7, h8]

/-! ### The sample words (R81, R87) -/

/-- Settles O5: each word is its micro-op's encoding. -/
theorem sampleWordsDecode : Obligations.SampleWordsDecode :=
  ⟨decode_encode (i := .adv 250#12) rfl, decode_encode (i := .smp .b1) rfl, decode_encode (i := .guard) rfl,
    decode_encode (i := .dec .b0) rfl, decode_encode (i := .shift 1#2 3#4 5#6) rfl, decode_encode (i := .setaddr 15#4) rfl⟩

end Sys2Proof.Machine
end

section
/-! The words of MP and the micro-ops they decode to (40_sequencer.md R101). -/

namespace Sys2Proof.Machine

/-! ### The words of the formats as numbers (30_encoding.md R81) -/

theorem toNat_append_eq_add {n m : Nat} (x : BitVec n) (y : BitVec m) : (x ++ y).toNat = x.toNat * 2 ^ m + y.toNat := by
  rw [BitVec.toNat_append, ← Nat.shiftLeft_add_eq_or_of_lt y.isLt, Nat.shiftLeft_eq]

/-- ADV's word in R101's word column. -/
theorem formatT_adv (dt : Dt) : formatT 0x1#4 dt = 0x1000#16 + dt.zeroExtend 16 := by
  have hdt := dt.isLt
  refine BitVec.eq_of_toNat_eq ?_
  simp only [formatT, toNat_append_eq_add, BitVec.toNat_add, BitVec.toNat_setWidth, BitVec.toNat_ofNat]
  omega

/-- SHIFT's word in R101's word column. -/
theorem formatS_shift {ch p col : Nat} (hch : ch < 4) (hp : p < 16) (hcol : col < 64) :
    formatS 0xA#4 (BitVec.ofNat 2 ch) (BitVec.ofNat 4 p) (BitVec.ofNat 6 col) =
      BitVec.ofNat 16 (0xA000 + 1024 * ch + 64 * p + col) := by
  refine BitVec.eq_of_toNat_eq ?_
  simp only [formatS, toNat_append_eq_add, BitVec.toNat_ofNat]
  omega

/-- SETADDR's word in R101's word column. -/
theorem formatA_setaddr {p : Nat} (hp : p < 16) :
    formatA 0xD#4 (BitVec.ofNat 4 p) = BitVec.ofNat 16 (0xD000 + 64 * p) := by
  refine BitVec.eq_of_toNat_eq ?_
  simp only [formatA, toNat_append_eq_add, BitVec.toNat_ofNat]
  omega

/-! ### The two columns of R101 -/

theorem encode_headInstr (dt : Dt) {pc : Nat} (hpc : pc < 7) : encode (headInstr dt pc) = headWord dt pc := by
  obtain rfl | hpos := Nat.eq_zero_or_pos pc
  · exact formatT_adv dt
  · interval_cases pc <;> rfl

theorem encode_subframeInstr {k j : Nat} (hk : k < 48) : encode (subframeInstr k j) = subframeWord k j := by
  have hp : k / 3 < 16 := by omega
  unfold subframeInstr subframeWord
  split_ifs with hcol
  · exact formatS_shift (by omega) hp hcol
  · rfl
  · rfl
  · exact formatA_setaddr hp
  · rfl

theorem encode_dummyInstr (j : Nat) : encode (dummyInstr j) = dummyWord j := by
  unfold dummyInstr dummyWord
  split_ifs with hcol
  · exact formatS_shift (ch := 2) (p := 15) (by decide) (by decide) hcol
  · rfl

/-- The word column of R101 is the encoding of the micro-op column. -/
theorem encode_mpInstr (dt : Dt) (pc : Nat) : encode (mpInstr dt pc) = mpWord dt pc := by
  unfold mpInstr mpWord
  split_ifs with hhead hrows
  · exact encode_headInstr dt hhead
  · exact encode_subframeInstr (by omega)
  · exact encode_dummyInstr _

theorem subframeInstr_wellFormed (k j : Nat) : wellFormed (subframeInstr k j) = true := by
  have hch : ∀ c < 3, BitVec.ofNat 2 c ≠ 3#2 := by decide
  unfold subframeInstr
  split_ifs
  · exact bne_iff_ne.mpr (hch _ (Nat.mod_lt _ (by decide)))
  all_goals rfl

theorem mpInstr_wellFormed (dt : Dt) (pc : Nat) : wellFormed (mpInstr dt pc) = true := by
  unfold mpInstr
  split_ifs
  · interval_cases pc <;> rfl
  · exact subframeInstr_wellFormed ..
  · unfold dummyInstr
    split_ifs <;> rfl

theorem decode_mpWord (dt : Dt) (pc : Nat) : decode (mpWord dt pc) = .ok (mpInstr dt pc) :=
  encode_mpInstr dt pc ▸ decode_encode (mpInstr_wellFormed dt pc)

/-- Settles O7: each word of MP is the encoding of its row's micro-op, which is well formed. -/
theorem microprogramWordsAreLegal : Obligations.MicroprogramWordsAreLegal := fun dt pc => decode_mpWord dt pc

end Sys2Proof.Machine
end

section
/-! The sequencer's step and direct issue (40_sequencer.md R100 to R107). -/

namespace Sys2Proof.Machine

/-! ### The micro-op at the sequencer position -/

/-- Only the micro-op at position 0 has a field that the environment fills (40_sequencer.md R107). -/
theorem mpInstr_of_pos {pc : Nat} (hpc : pc ≠ 0) (dt dt' : Dt) : mpInstr dt pc = mpInstr dt' pc := by
  unfold mpInstr
  split_ifs
  · interval_cases pc
    · exact absurd rfl hpc
    all_goals rfl
  all_goals rfl

theorem fetch_at_zero {s : State} (h : s.seqPc = 0) : fetch s = (mpWord (drawDt s).1 0, (drawDt s).2) := if_pos h

theorem fetch_of_pos {s : State} (h : s.seqPc ≠ 0) : fetch s = (mpWord 0 s.seqPc.val, s) := if_neg h

theorem fetch_snd (s : State) : (fetch s).2 = if s.seqPc = 0 then (drawDt s).2 else s := by
  unfold fetch
  split_ifs <;> rfl

/-- The fetched word is MP's at the sequencer position, ADV's with the time advance drawn. -/
theorem decode_fetch (s : State) : decode (fetch s).1 = .ok (mpInstr (drawDt s).1 s.seqPc.val) := by
  by_cases h : s.seqPc = 0
  · rw [fetch_at_zero h, h]
    exact decode_mpWord _ 0
  · rw [fetch_of_pos h, mpInstr_of_pos (Fin.val_ne_zero_iff.mpr h) _ 0]
    exact decode_mpWord 0 _

@[simp] theorem fetch_seqPc (s : State) : (fetch s).2.seqPc = s.seqPc := by rw [fetch_state]; rfl
@[simp] theorem fetch_renderDone (s : State) : (fetch s).2.renderDone = s.renderDone := by rw [fetch_state]; rfl

/-! ### Performing it and moving on -/

/-- A machine that is not stopped performs the micro-op of MP at the sequencer position. -/
theorem seqStep_eq_perform {s : State} (h : stopped s = none) :
    seqStep s = performAndAdvance (mpInstr (drawDt s).1 s.seqPc.val) (fetch s).2 := by
  unfold seqStep
  rw [h, decode_fetch]

theorem performAndAdvance_of_exec {i : Instr} {s t : State} (h : exec i s = .next t) :
    performAndAdvance i s = .next (advancePc i s.renderDone t) := by
  unfold performAndAdvance
  rw [h]

/-- When the sequencer goes on, and when it stays (40_sequencer.md R100). -/
theorem advancePc_eq_ite (i : Instr) (done : Bool) (s : State) :
    advancePc i done s =
      if s.fault.isSome = true ∨ (i = .rwait ∧ done = false) then s else { s with seqPc := nextPc s.seqPc } := by
  rw [ite_or]
  rfl

/-- The sequencer's step on a machine that is not stopped, with the fetch written out (40_sequencer.md R100). -/
theorem seqStep_performs {s : State} (h : stopped s = none) :
    ∃ t, exec (mpInstr (drawDt s).1 s.seqPc.val) (if s.seqPc = 0 then (drawDt s).2 else s) = .next t ∧
      seqStep s = .next
        (if t.fault.isSome = true ∨ (mpInstr (drawDt s).1 s.seqPc.val = .rwait ∧ s.renderDone = false) then t
          else { t with seqPc := nextPc s.seqPc }) := by
  obtain ⟨t, ht⟩ := exec_answers (mpInstr (drawDt s).1 s.seqPc.val) (fetch s).2
  have htpc : t.seqPc = s.seqPc := (exec_untouched ht).seqPc.trans (fetch_seqPc s)
  refine ⟨t, fetch_snd s ▸ ht, ?_⟩
  rw [seqStep_eq_perform h, performAndAdvance_of_exec ht, advancePc_eq_ite, fetch_renderDone, htpc]

/-! ### The state the sequencer moves from -/

/-- The state the sequencer moves from differs in the host's own data and in the turns only. -/
theorem SequencerMovesFrom.eq_with {s u : State} (h : SequencerMovesFrom s u) :
    ∃ host n ts, u = { s with host := host, hostDrawn := n, turns := ts } := by
  obtain ⟨ts, -, rfl⟩ | ⟨-, -, rfl⟩ := h
  · exact ⟨s.host, s.hostDrawn, ts, rfl⟩
  · exact ⟨_, _, s.turns, drawHost_eq s⟩

theorem SequencerMovesFrom.stopped_eq {s u : State} (h : SequencerMovesFrom s u) : stopped u = stopped s := by
  obtain ⟨host, n, ts, rfl⟩ := h.eq_with
  exact stopped_congr rfl rfl rfl

/-- Settles O11: the fetched word decodes to MP's micro-op, and moving on follows R100's three cases. -/
theorem stepRunsTheMicroprogram : Obligations.StepRunsTheMicroprogram := by
  intro s u hs hu
  rw [step_of_sequencerMoves hu]
  have hu' : stopped u = none := hu.stopped_eq.trans hs
  obtain ⟨host, n, ts, rfl⟩ := hu.eq_with
  exact seqStep_performs hu'

/-! ### RWAIT at the sequencer position (R104) -/

section

variable {s : State} (hs : stopped s = none) (hpc : s.seqPc = 6)
include hs hpc

theorem seqStep_at_rwait : seqStep s = .next (advancePc .rwait s.renderDone (s.setRenderDone false)) := by
  have hfetch : (fetch s).2 = s := by rw [fetch_of_pos (by rw [hpc]; decide)]
  rw [seqStep_eq_perform hs, hfetch, hpc]
  rfl

/-- Without RENDER_DONE the sequencer is held and nothing changes. -/
theorem seqStep_at_rwait_held (hdone : s.renderDone = false) : seqStep s = .next s := by
  rw [seqStep_at_rwait hs hpc, advancePc_eq_ite, if_pos (.inr ⟨rfl, hdone⟩), State.setRenderDone, ← hdone]

/-- RENDER_DONE is consumed and the sequencer goes on to the scan pass. -/
theorem seqStep_at_rwait_released (hdone : s.renderDone = true) :
    seqStep s = .next { s with renderDone := false, seqPc := 7 } := by
  obtain ⟨hfault, -⟩ := stopped_eq_none.mp hs
  rw [seqStep_at_rwait hs hpc, advancePc_eq_ite, if_neg (by simp [hfault, hdone]), State.setRenderDone_seqPc, hpc]
  rfl

end

/-- Settles O13: the step is the sequencer's at RWAIT. -/
theorem renderWaitHoldsAndReleases : Obligations.RenderWaitHoldsAndReleases := by
  intro s u hs hu hpc
  rw [step_of_sequencerMoves hu]
  have hu' : stopped u = none := hu.stopped_eq.trans hs
  obtain ⟨host, n, ts, rfl⟩ := hu.eq_with
  exact ⟨seqStep_at_rwait_held hu' hpc, seqStep_at_rwait_released hu' hpc⟩

/-- Settles O14: RWAIT is one write of the RENDER_DONE signal. -/
theorem rwaitConsumesRenderDone : Obligations.RwaitConsumesRenderDone := fun s =>
  ⟨s.setRenderDone false, rfl, rfl, rfl, ⟨rfl, rfl, rfl⟩, rfl, ⟨rfl, rfl⟩, fun _ => rfl, ⟨rfl, rfl⟩,
    ⟨rfl, rfl, rfl, rfl, rfl⟩, rfl⟩

/-! ### ADV and the environment's draws (R103, R107) -/

/-- ADV's operand is the number its field holds (30_encoding.md R82). -/
theorem toNat_add_dtOperand (x : Time) (dt : Dt) : (x + dtOperand dt).toNat = (x.toNat + dt.toNat) % 2 ^ 32 := by
  have hdt := dt.isLt
  simp only [dtOperand, BitVec.toNat_add, BitVec.toNat_setWidth]
  omega

/-- Settles O15: ADV adds `dt` to the time base and maps `Channel.advance` over the records. -/
theorem advAdvancesEveryClock : Obligations.AdvAdvancesEveryClock := by
  intro dt s
  refine ⟨_, rfl, toNat_add_dtOperand .., fun b => ?_, rfl, rfl, ⟨rfl, rfl⟩, fun _ => rfl, ⟨rfl, rfl⟩, ⟨rfl, rfl⟩,
    ⟨rfl, rfl, rfl, rfl, rfl⟩, rfl⟩
  rw [State.setBtn_btn, PerButton.get_map]
  exact ⟨toNat_add_dtOperand .., rfl⟩

/-- Settles O17: the level is drawn by `drawLevel`, whose two cases are those of the statement. -/
theorem smpDrawsOneLevel : Obligations.SmpDrawsOneLevel := by
  intro b s t h
  have hlevel : (t.btn.get b).curLevel = (drawLevel b s).1 := by rw [exec_smp_get h, Channel.sampled_eq]
  have henv : t.env = (drawLevel b s).2.env := by cases exec_writes h; rfl
  rw [hlevel, henv]
  cases hl : s.env.levels.get b with
  | cons l ls =>
    rw [drawLevel_cons hl]
    refine ⟨fun l' ls' heq => ?_, nofun, fun b' hb => PerButton.get_set_other _ _ hb, rfl⟩
    obtain ⟨rfl, rfl⟩ := List.cons.inj heq
    exact ⟨rfl, PerButton.get_set_same .., rfl⟩
  | nil =>
    rw [drawLevel_nil hl]
    exact ⟨nofun, fun _ => ⟨rfl, rfl, rfl⟩, fun _ _ => rfl, rfl⟩

/-- At position 0 the step is ADV with the time advance drawn. -/
theorem seqStep_at_zero {s : State} (hs : stopped s = none) (hpc : s.seqPc = 0) :
    ∃ t, seqStep s = .next t ∧ t.nowMs = s.nowMs + dtOperand (drawDt s).1 ∧
      t.btn = s.btn.map (Channel.advance (dtOperand (drawDt s).1)) ∧ t.env = (drawDt s).2.env := by
  rw [seqStep_eq_perform hs, fetch_at_zero hpc, hpc, drawDt_state]
  refine ⟨_, performAndAdvance_of_exec rfl, ?_⟩
  rw [advancePc_eq]
  exact ⟨rfl, rfl, rfl⟩

/-- Settles O60: ADV adds what `drawDt` draws, whose two cases are those of the statement. -/
theorem tickDrawsOneTimeAdvance : Obligations.TickDrawsOneTimeAdvance := by
  intro s u hs hu hpc
  rw [step_of_sequencerMoves hu]
  have hu' : stopped u = none := hu.stopped_eq.trans hs
  obtain ⟨host, n, ts, rfl⟩ := hu.eq_with
  obtain ⟨t, ht, hnow, hbtn, henv⟩ := seqStep_at_zero hu' hpc
  refine ⟨t, ht, fun d ds hd => ?_, fun hd => ?_⟩
  · rw [drawDt_cons (s := { s with host := host, hostDrawn := n, turns := ts }) hd] at hnow hbtn henv
    exact ⟨hnow, fun b => by rw [hbtn, PerButton.get_map]; rfl, henv⟩
  · rw [drawDt_nil (s := { s with host := host, hostDrawn := n, turns := ts }) hd] at hnow hbtn henv
    exact ⟨hnow, fun b => by rw [hbtn, PerButton.get_map]; rfl, henv⟩

/-! ### Direct issue (R106) -/

theorem issueWord_of_decode {w : Word} {i : Instr} {s : State} (hs : stopped s = none) (hd : decode w = .ok i) :
    issueWord w s = exec i s := by
  unfold issueWord
  rw [hs, hd]

/-- Settles O10: a direct issue performs the micro-op that its word decodes to. -/
theorem stepRunsTheIssuedMicroOp : Obligations.StepRunsTheIssuedMicroOp := fun s w _ hs hd =>
  (step_withFetchWord s 16 w).trans (issueWord_of_decode hs hd)

theorem step_of_harness {s : State} {w : Word} {ts : List Turn} (h : s.turns = .harness w :: ts) :
    step s = issueWord w (s.setTurns ts) := by
  unfold step takeTurn
  rw [h]

/-- Settles O12: a direct issue performs a micro-op, which leaves the position and the turns alone, or refuses the word. -/
theorem directIssueKeepsTheSequencer : Obligations.DirectIssueKeepsTheSequencer := by
  intro s t w ts hturns h
  obtain ⟨-, ⟨i, -, hi⟩ | ⟨-, -, rfl⟩⟩ := issueWord_cases ((step_of_harness hturns).symm.trans h)
  · exact ⟨(exec_untouched hi).seqPc, (exec_untouched hi).turns⟩
  · exact ⟨rfl, rfl⟩

end Sys2Proof.Machine
end

section
/-! The turns of the host and of RESET, and what a halted machine still does (40_sequencer.md R108, R109; 60_exceptions.md R201,
R202). -/

namespace Sys2Proof.Machine

/-! ### The host's decision and its moves (R109) -/

theorem drawHost_of_freeHost_none {s : State} (h : s.host = []) (hf : Config.freeHost s.hostDrawn = none) :
    drawHost s = { s with hostDrawn := s.hostDrawn + 1 } := by
  rw [drawHost_nil h, hf, Option.toList_none, ← h]

theorem drawHost_of_freeHost_some {s : State} {q : HostReq} (h : s.host = []) (hf : Config.freeHost s.hostDrawn = some q) :
    drawHost s = { s with host := [q], hostDrawn := s.hostDrawn + 1 } := by
  rw [drawHost_nil h, hf, Option.toList_some]

theorem hostTurn_of_nil {u : State} (hq : u.host = []) : hostTurn u = .next u := by
  unfold hostTurn
  rw [hq]

theorem hostReady_of_nil {u : State} (hq : u.host = []) : hostReady u = false := by
  unfold hostReady
  rw [hq]

/-- When the host asks nothing, its written turn passes, and with no turn written down the sequencer moves. -/
theorem step_of_hostAsksNothing {s u : State} (h : HostMovesFrom s u) (hq : u.host = []) :
    (s.turns = [] → step s = seqStep u) ∧ (s.turns ≠ [] → step s = .next u) := by
  obtain ⟨ts, ht, rfl⟩ | ⟨ht, rfl⟩ := h
  · refine ⟨fun hn => by simp [ht] at hn, fun _ => ?_⟩
    unfold step takeTurn
    rw [ht]
    exact hostTurn_of_nil hq
  · exact ⟨fun _ => step_of_sequencerMoves (.inr ⟨ht, hostReady_of_nil hq, rfl⟩), fun hn => absurd ht hn⟩

theorem HostMovesFrom.hostAdmits_eq {s u : State} (h : HostMovesFrom s u) (q : HostReq) : hostAdmits u q = hostAdmits s q := by
  obtain ⟨host, n, ts, rfl⟩ := h.eq_with
  exact hostAdmits_congr q rfl rfl rfl

/-- The one request of a host that had none waiting is served, or it waits as `step_of_hostWaits` says. -/
theorem step_of_hostAsksOnce {s u : State} {q : HostReq} (h : HostMovesFrom s { u with host := [q] }) (hu : u.host = []) :
    (s.turns = [] → step s = if hostAdmits s q then .next (hostServe u q) else seqStep { u with host := [q] }) ∧
      (s.turns ≠ [] → step s = .next (if hostAdmits s q then hostServe u q else { u with host := [q] })) := by
  cases ha : hostAdmits s q with
  | true =>
    have hserved := step_of_hostMoves h rfl ((h.hostAdmits_eq q).trans ha)
    rw [State.setHost, ← hu] at hserved
    exact ⟨fun _ => hserved, fun _ => hserved⟩
  | false => exact step_of_hostWaits h rfl ((h.hostAdmits_eq q).trans ha)

/-- Settles O55: the free value is nothing or one request, and the host moves from the state that holds it. -/
theorem hostDecidesFreelyWhenNothingWaits : Obligations.HostDecidesFreelyWhenNothingWaits := by
  intro s h
  refine ⟨fun hturns => ?_, fun ts hturns => ?_⟩
  · have hmoves : HostMovesFrom s (drawHost s) := .inr ⟨hturns, rfl⟩
    cases hf : Config.freeHost s.hostDrawn with
    | none =>
      rw [drawHost_of_freeHost_none h hf] at hmoves
      exact (step_of_hostAsksNothing hmoves h).1 hturns
    | some q =>
      rw [drawHost_of_freeHost_some h hf] at hmoves
      exact (step_of_hostAsksOnce (u := { s with hostDrawn := s.hostDrawn + 1 }) hmoves h).1 hturns
  · have hne : s.turns ≠ [] := by simp [hturns]
    have hmoves : HostMovesFrom s (drawHost { s with turns := ts }) := .inl ⟨ts, hturns, rfl⟩
    cases hf : Config.freeHost s.hostDrawn with
    | none =>
      rw [drawHost_of_freeHost_none (s := { s with turns := ts }) h hf] at hmoves
      exact (step_of_hostAsksNothing hmoves h).2 hne
    | some q =>
      rw [drawHost_of_freeHost_some (s := { s with turns := ts }) h hf] at hmoves
      exact (step_of_hostAsksOnce (u := { s with hostDrawn := s.hostDrawn + 1, turns := ts }) hmoves h).2 hne

/-- Settles O43: a score read is always admitted, and RENDER_DONE exactly in the open window. -/
theorem hostReadsScoresAndEndsTheWindow : Obligations.HostReadsScoresAndEndsTheWindow := by
  intro s u qs h
  obtain ⟨host, n, ts, rfl⟩ := h.eq_with
  refine ⟨fun b hq => step_of_hostMoves h hq rfl, fun hq hfault hpc hdone => ?_, fun hq hshut => ?_⟩
  · exact step_of_hostMoves h hq (windowOpen_iff.mpr ⟨hfault, hpc, hdone⟩)
  · exact step_of_hostWaits h hq (windowOpen_eq_false.mpr hshut)

/-! ### RESET (R109) -/

/-- Settles O53: RESET clears the block in every state. -/
theorem resetWorksInEveryState : Obligations.ResetWorksInEveryState := by
  intro s ts hturns
  unfold step takeTurn
  rw [hturns]
  rfl

/-! ### Without a fault or a refusal every turn has a next state (R108) -/

theorem hostTurn_answers (u : State) : ∃ t, hostTurn u = .next t := by
  unfold hostTurn
  split
  · exact ⟨_, rfl⟩
  · split <;> exact ⟨_, rfl⟩

theorem issueWord_answers {s : State} (h : stopped s = none) (w : Word) : ∃ t, issueWord w s = .next t := by
  unfold issueWord
  rw [h]
  cases decode w with
  | ok i => exact exec_answers i s
  | invalid why => exact ⟨_, rfl⟩

theorem freeStep_answers {s : State} (h : stopped s = none) : ∃ t, freeStep s = .next t := by
  unfold freeStep
  split
  · exact hostTurn_answers s
  · obtain ⟨t, -, ht⟩ := seqStep_performs h
    exact ⟨_, ht⟩

/-- Settles O56: each mover's turn has a next state. -/
theorem onlyFaultsAndRefusalsHalt : Obligations.OnlyFaultsAndRefusalsHalt := by
  intro s hs
  unfold step takeTurn
  cases s.turns with
  | nil => exact freeStep_answers ((stopped_drawHost s).trans hs)
  | cons turn ts =>
    have hs' : stopped (s.setTurns ts) = none := (stopped_congr rfl rfl rfl).trans hs
    cases turn with
    | sequencer =>
      obtain ⟨t, -, ht⟩ := seqStep_performs hs'
      exact ⟨_, ht⟩
    | host => exact hostTurn_answers _
    | harness w => exact issueWord_answers hs' w
    | reset => exact ⟨_, rfl⟩

/-! ### A halted machine (60_exceptions.md R201, R202) -/

/-- The stop of a faulted machine is its fault, refused or not (log 26). -/
theorem stopped_of_fault {s : State} {f : FaultRecord} (hf : s.fault = some f) : stopped s = some (.fault f.reason) := by
  unfold stopped
  rw [hf]

/-- A stopped machine's sequencer and a direct issue answer the stop. -/
theorem step_of_stopped {s : State} {o : Host.Outcome State Fault Refusal} (hs : stopped s = some o) :
    (∀ u, SequencerMovesFrom s u → step s = o) ∧ ∀ w, step (s.withFetchWord 16 w) = o := by
  refine ⟨fun u hu => ?_, fun w => (step_withFetchWord s 16 w).trans (issueWord_of_stopped _ hs)⟩
  rw [step_of_sequencerMoves hu]
  exact seqStep_of_stopped (hu.stopped_eq.trans hs)

/-- On a halted machine only the host moves, RESET apart. -/
theorem hostMoves_of_stopped {s t : State} (h : step s = .next t) (hreset : s.turns.head? ≠ some .reset)
    (hs : stopped s ≠ none) : ∃ host n ts, HostMoves { s with host := host, hostDrawn := n, turns := ts } t := by
  rcases step_cases h with ⟨ts, hts, -⟩ | ⟨w, ts, -, hgo, -⟩ | ⟨ts, -, hh⟩ | ⟨ts, -, hgo, -⟩ | ⟨-, ⟨-, hh⟩ | ⟨-, hgo, -⟩⟩
  · exact absurd (by rw [hts]; rfl) hreset
  · exact absurd ((stopped_congr rfl rfl rfl).symm.trans hgo) hs
  · rw [drawHost_eq] at hh
    exact ⟨_, _, _, hh⟩
  · exact absurd ((stopped_congr rfl rfl rfl).symm.trans hgo) hs
  · rw [drawHost_eq] at hh
    exact ⟨_, _, _, hh⟩
  · exact absurd ((stopped_drawHost s).symm.trans hgo) hs

/-- A host's move changes the frame buffer, the refusal mark, the RENDER_DONE signal and the host's own data only. -/
theorem HostMoves.eq_with {u t : State} (h : HostMoves u t) :
    t = { u with fb := t.fb, refusal := t.refusal, renderDone := t.renderDone, reads := t.reads, host := t.host } := by
  obtain ⟨q, qs, -, -, rfl⟩ | rfl := h
  · rw [hostServe_eq]
    rfl
  · rfl

theorem HostMoves.fb_eq_of_shut {u t : State} (h : HostMoves u t) (hshut : windowOpen u = false) : t.fb = u.fb :=
  h.fb_eq_or_written.resolve_right fun ⟨hopen, _⟩ => Bool.false_ne_true (hshut.symm.trans hopen)

theorem HostMoves.renderDone_eq_of_shut {u t : State} (h : HostMoves u t) (hshut : windowOpen u = false) :
    t.renderDone = u.renderDone := by
  obtain ⟨q, qs, -, ha, rfl⟩ | rfl := h
  · cases q with
    | fbWrite ch r c v =>
      by_cases hin : fbInRange ch r c = true
      · rw [hostServe_fbWrite_inRange hin]; rfl
      · rw [hostServe_fbWrite_outOfRange hin]; rfl
    | renderDone => exact absurd (hshut.symm.trans ha) Bool.false_ne_true
    | scoreRead b => rfl
  · rfl

/-- A refusal mark already set stays as it is (10_state.md R33). -/
theorem State.refuse_refusal_of_refused {s : State} (h : s.refusal.isSome = true) (r : Refusal) :
    (s.refuse r).refusal = s.refusal := by
  obtain ⟨r', hr'⟩ := Option.isSome_iff_exists.mp h
  rw [State.refuse_eq, hr', Option.getD_some]

theorem HostMoves.refusal_eq_of_refused {u t : State} (h : HostMoves u t) (hr : u.refusal.isSome = true) :
    t.refusal = u.refusal := by
  obtain ⟨q, qs, -, -, rfl⟩ | rfl := h
  · cases q with
    | fbWrite ch r c v =>
      by_cases hin : fbInRange ch r c = true
      · rw [hostServe_fbWrite_inRange hin]; rfl
      · rw [hostServe_fbWrite_outOfRange hin]
        exact State.refuse_refusal_of_refused (s := u.setHost qs) hr _
    | renderDone => rfl
    | scoreRead b => rfl
  · rfl

theorem stopped_ne_none_of_fault {s : State} (h : s.fault.isSome = true) : stopped s ≠ none := fun hs => by
  simp [(stopped_eq_none.mp hs).1] at h

theorem stopped_ne_none_of_refusal {s : State} (h : s.refusal.isSome = true) : stopped s ≠ none := fun hs => by
  simp [(stopped_eq_none.mp hs).2.1] at h

/-- Settles O50: on a halted machine every step but RESET is the host's, and a fault shuts the render window. -/
theorem haltedMachineHasNoStep : Obligations.HaltedMachineHasNoStep := by
  intro s
  refine ⟨fun f hf => step_of_stopped (stopped_of_fault hf), fun r hf hr => step_of_stopped (stopped_of_refusal hf hr),
    fun t h hreset hfault => ?_, fun t h hreset hs => ?_, fun t h hreset hfault => ?_, fun t h hreset hrefusal => ?_⟩
  · obtain ⟨host, n, ts, hh⟩ := hostMoves_of_stopped h hreset (stopped_ne_none_of_fault hfault)
    have hshut := windowOpen_eq_false (s := { s with host := host, hostDrawn := n, turns := ts }).mpr (.inl hfault)
    rw [hh.eq_with, hh.fb_eq_of_shut hshut, hh.renderDone_eq_of_shut hshut]
  · obtain ⟨host, n, ts, hh⟩ := hostMoves_of_stopped h hreset hs
    rw [hh.eq_with]
  · obtain ⟨host, n, ts, hh⟩ := hostMoves_of_stopped h hreset (stopped_ne_none_of_fault hfault)
    rw [hh.eq_with]
  · obtain ⟨host, n, ts, hh⟩ := hostMoves_of_stopped h hreset (stopped_ne_none_of_refusal hrefusal)
    exact hh.refusal_eq_of_refused hrefusal

end Sys2Proof.Machine
end

section
/-! Runs of the block (40_sequencer.md R108): a run held at RWAIT, and a run from reset whose host answers each render window. -/

namespace Sys2Proof.Machine

/-! ### A step of a run -/

/-- Each step of a run is the sequencer's or the host's, from a state that differs in the outside agents' data only. -/
theorem IsRun.moves {r : Nat → State} (hr : IsRun r) (n : Nat) :
    ∃ env host k, let u := { r n with env := env, host := host, hostDrawn := k, turns := [] }
      seqStep u = .next (r (n + 1)) ∨ HostMoves u (r (n + 1)) := by
  obtain ⟨env, host, turn, rfl | rfl, hstep⟩ := hr n
  · rw [step_of_sequencerMoves (.inl ⟨[], rfl, rfl⟩)] at hstep
    exact ⟨env, host, (r n).hostDrawn, .inl hstep⟩
  · have hmoves := hostTurn_cases (u := drawHost { r n with env := env, host := host, turns := [] }) hstep
    rw [drawHost_eq] at hmoves
    exact ⟨env, _, _, .inr hmoves⟩

/-! ### A run held at RWAIT (R104) -/

/-- Without RENDER_DONE no step of a run leaves RWAIT. -/
theorem IsRun.stays_at_rwait {r : Nat → State} (hr : IsRun r) {n : Nat} (hpc : (r n).seqPc = 6)
    (hdone : (r n).renderDone = false) : (r (n + 1)).seqPc = 6 := by
  obtain ⟨env, host, k, hseq | hhost⟩ := hr.moves n
  · have hrunning := (seqStep_cases hseq).1
    rw [seqStep_at_rwait_held hrunning hpc hdone] at hseq
    exact Host.Outcome.next.inj hseq ▸ hpc
  · rw [hhost.eq_with]
    exact hpc

theorem endsTick_of_seqPc_ne {s t : State} (h : s.seqPc ≠ 3335) : endsTick s t = false := by simp [endsTick, h]

/-- Settles O58: the sequencer stays at RWAIT by induction along the run, and a step from there ends no tick. -/
theorem heldRunEndsNoTick : Obligations.HeldRunEndsNoTick := by
  intro r n hr hpc hdone m hm
  have hstays : ∀ m, n ≤ m → (r m).seqPc = 6 :=
    Nat.le_induction hpc fun m hm ih => hr.stays_at_rwait ih (hdone m hm)
  have hends : ∀ m, n ≤ m → endsTick (r m) (r (m + 1)) = false := fun m hm =>
    endsTick_of_seqPc_ne (by rw [hstays m hm]; decide)
  refine ⟨hstays m hm, hends m hm, ?_⟩
  induction m, hm using Nat.le_induction with
  | base => rfl
  | succ m hm ih => rw [ticksEnded, hends m hm, ih]; rfl

/-! ### The micro-ops that fault while OE_n = 0, and where MP has them (60_exceptions.md R201, 43_scanout.md R182) -/

/-- LATCH and SETADDR fault while OE_n = 0 (43_scanout.md R174, R175). -/
def NeedsBlank (i : Instr) : Prop := i = .latch ∨ ∃ p, i = .setaddr p

/-- A well-formed micro-op that finds OE_n as it needs it neither faults nor is refused. -/
theorem exec_keeps_running {i : Instr} {s t : State} (h : exec i s = .next t) (hwf : wellFormed i = true)
    (hblank : NeedsBlank i → s.out.oeN = true) (hs : stopped s = none) : stopped t = none := by
  have hcfg : t.cfg = s.cfg := (exec_untouched h).cfg
  suffices hmarks : t.fault = s.fault ∧ t.refusal = s.refusal from (stopped_congr hmarks.1 hmarks.2 hcfg).trans hs
  cases i with
  | shift ch p col =>
    obtain ⟨c, hc⟩ := Option.isSome_iff_exists.mp (chanOf_isSome.mpr (bne_iff_ne.mp hwf))
    rw [← Host.Outcome.next.inj ((execShift_of_chan hc p col s).symm.trans h), State.clockOut_eq]
    exact ⟨rfl, rfl⟩
  | latch =>
    cases (execLatch_blank (hblank (.inl rfl))).symm.trans h
    exact ⟨rfl, rfl⟩
  | setaddr p =>
    cases (execSetaddr_blank (hblank (.inr ⟨p, rfl⟩)) p).symm.trans h
    exact ⟨rfl, rfl⟩
  | _ => cases exec_writes h <;> exact ⟨rfl, rfl⟩

/-- Position `7 + 68k + j` of MP is position `j` of subframe `k` (R101). -/
theorem mpInstr_subframe (dt : Dt) {k j : Nat} (hk : k < 48) (hj : j < 68) : mpInstr dt (7 + 68 * k + j) = subframeInstr k j := by
  have hquot : (7 + 68 * k + j - 7) / 68 = k := by omega
  have hrem : (7 + 68 * k + j - 7) % 68 = j := by omega
  rw [mpInstr, if_neg (by omega), if_pos (by omega), hquot, hrem]

/-- MP has LATCH and SETADDR at positions 65 and 66 of a subframe only (R101). -/
theorem position_of_needsBlank {dt : Dt} {pc : Nat} (h : NeedsBlank (mpInstr dt pc)) :
    ∃ k j, k < 48 ∧ (j = 65 ∨ j = 66) ∧ pc = 7 + 68 * k + j := by
  unfold mpInstr at h
  split_ifs at h with hhead hrows
  · interval_cases pc <;> simp [NeedsBlank, headInstr] at h
  · refine ⟨(pc - 7) / 68, (pc - 7) % 68, by omega, ?_, by omega⟩
    unfold subframeInstr at h
    split_ifs at h with hshift hb hlatch hsetaddr
    · simp [NeedsBlank] at h
    · simp [NeedsBlank] at h
    · exact .inl hlatch
    · exact .inr hsetaddr
    · simp [NeedsBlank] at h
  · unfold dummyInstr at h
    split_ifs at h <;> simp [NeedsBlank] at h

/-- Only BLANK and LATCH come directly before a micro-op of MP that needs OE_n = 1 (43_scanout.md R182). -/
theorem mpInstr_before_needsBlank {dt dt' : Dt} {pc : Nat} (h : NeedsBlank (mpInstr dt' (pc + 1))) :
    mpInstr dt pc = .blank ∨ mpInstr dt pc = .latch := by
  obtain ⟨k, j, hk, rfl | rfl, hpc⟩ := position_of_needsBlank h
  · obtain rfl : pc = 7 + 68 * k + 64 := by omega
    exact .inl (mpInstr_subframe dt hk (by decide))
  · obtain rfl : pc = 7 + 68 * k + 65 := by omega
    exact .inr (mpInstr_subframe dt hk (by decide))

/-- BLANK leaves OE_n at 1, and LATCH keeps it there (43_scanout.md R173, R174). -/
theorem exec_oeN_of_blank_or_latch {i : Instr} {s t : State} (h : exec i s = .next t) (hi : i = .blank ∨ i = .latch)
    (hblank : NeedsBlank i → s.out.oeN = true) : t.out.oeN = true := by
  obtain rfl | rfl := hi
  · cases h
    rfl
  · have hoe := hblank (.inl rfl)
    cases (execLatch_blank hoe).symm.trans h
    exact hoe

/-- OE_n is 1 where the micro-op of MP at the sequencer position needs it. -/
def BlankWhereNeeded (s : State) : Prop := ∀ dt, NeedsBlank (mpInstr dt s.seqPc.val) → s.out.oeN = true

/-! ### A step in which the sequencer goes on (R100) -/

/-- MP waits at position 6 only (R101). -/
theorem mpInstr_eq_rwait {dt : Dt} {pc : Nat} : mpInstr dt pc = .rwait ↔ pc = 6 := by
  refine ⟨fun h => ?_, fun h => h ▸ rfl⟩
  unfold mpInstr at h
  split_ifs at h
  · obtain hlt | rfl : pc < 6 ∨ pc = 6 := by omega
    · interval_cases pc <;> cases h
    · rfl
  · unfold subframeInstr at h
    split_ifs at h
  · unfold dummyInstr at h
    split_ifs at h

theorem nextPc_val (pc : Fin 3336) : (nextPc pc).val = if pc.val = 3335 then 0 else pc.val + 1 := by
  by_cases h : pc = 3335
  · subst h
    rfl
  · have hne : pc.val ≠ 3335 := fun e => h (Fin.ext e)
    have hlt := pc.isLt
    rw [nextPc, if_neg h, if_neg hne, Fin.val_add]
    exact Nat.mod_eq_of_lt (by omega)

/-- No micro-op sets RENDER_DONE, and RWAIT consumes it (R104). -/
theorem exec_renderDone {i : Instr} {s t : State} (h : exec i s = .next t) (hdone : i = .rwait ∨ s.renderDone = false) :
    t.renderDone = false := by
  by_cases hi : i = .rwait
  · subst hi
    cases h
    rfl
  · have hsame : t.renderDone = s.renderDone := by
      cases exec_writes h with
      | rwait => exact absurd rfl hi
      | _ => rfl
    exact hsame.trans (hdone.resolve_left hi)

/-- Where OE_n is as MP needs it, and RENDER_DONE has been signalled at RWAIT, the sequencer goes on and can go on. -/
theorem seqStep_goes_on {s : State} (hs : stopped s = none) (hblank : BlankWhereNeeded s)
    (hdone : s.seqPc = 6 → s.renderDone = true) :
    ∃ t, seqStep s = .next t ∧ stopped t = none ∧ BlankWhereNeeded t ∧ t.seqPc = nextPc s.seqPc ∧
      (s.seqPc = 6 ∨ s.renderDone = false → t.renderDone = false) := by
  obtain ⟨t, ht, hstep⟩ := seqStep_performs hs
  rw [← fetch_snd, fetch_state] at ht
  have hrun : stopped t = none :=
    exec_keeps_running ht (mpInstr_wellFormed ..) (hblank _) ((stopped_congr rfl rfl rfl).trans hs)
  have hgo : ¬(t.fault.isSome = true ∨ (mpInstr (drawDt s).1 s.seqPc.val = .rwait ∧ s.renderDone = false)) := by
    rintro (hfault | ⟨hi, hd⟩)
    · simp [(stopped_eq_none.mp hrun).1] at hfault
    · exact Bool.false_ne_true (hd.symm.trans (hdone (Fin.ext (mpInstr_eq_rwait.mp hi))))
  rw [if_neg hgo] at hstep
  refine ⟨_, hstep, (stopped_congr rfl rfl rfl).trans hrun, fun dt hneeds => ?_, rfl, fun h => ?_⟩
  · rw [nextPc_val] at hneeds
    split_ifs at hneeds
    · obtain ⟨k, j, -, -, hpc⟩ := position_of_needsBlank hneeds
      omega
    · have hoe : t.out.oeN = true := exec_oeN_of_blank_or_latch ht (mpInstr_before_needsBlank hneeds) (hblank _)
      exact hoe
  · have hconsumed : t.renderDone = false :=
      exec_renderDone ht (h.imp_left fun hpc => mpInstr_eq_rwait.mpr (congrArg Fin.val hpc))
    exact hconsumed

/-! ### The run whose host answers each render window (R104, R108) -/

/-- The host moves when the sequencer waits for RENDER_DONE, and the sequencer otherwise. -/
def answeringTurn (s : State) : Turn := if s.seqPc = 6 ∧ s.renderDone = false then .host else .sequencer

/-- One step with that turn, the host having RENDER_DONE to give. -/
def answeringStep (s : State) : Host.Outcome State Fault Refusal :=
  step { s with host := [.renderDone], turns := [answeringTurn s] }

/-- The states of the steps from reset. -/
def answeringRun (c : Config) : Nat → State
  | 0 => State.boot c
  | n + 1 =>
    match answeringStep (answeringRun c n) with
    | .next t => t
    | .fault _ => answeringRun c n
    | .refused _ => answeringRun c n

theorem answeringRun_succ {c : Config} {n : Nat} {t : State} (h : answeringStep (answeringRun c n) = .next t) :
    answeringRun c (n + 1) = t := by
  rw [answeringRun, h]

/-- The sequencer position after `n` steps: a tick takes 3337 of them, two at RWAIT. -/
def answeringPc (n : Nat) : Nat := if n % 3337 ≤ 6 then n % 3337 else n % 3337 - 1

/-- What holds after `n` steps of that run. -/
structure Answering (n : Nat) (s : State) : Prop where
  running : stopped s = none
  blank : BlankWhereNeeded s
  position : s.seqPc.val = answeringPc n
  signal : s.renderDone = decide (n % 3337 = 7)

theorem boot_answering {c : Config} (hc : configValid c = true) : Answering 0 (State.boot c) where
  running := stopped_eq_none.mpr ⟨rfl, by rw [State.boot_refusal, if_pos hc], hc⟩
  blank := fun _ _ => rfl
  position := rfl
  signal := rfl

/-- The host's RENDER_DONE at RWAIT. -/
theorem Answering.host_step {n : Nat} {s : State} (h : Answering n s) (hwait : s.seqPc = 6 ∧ s.renderDone = false) :
    ∃ t, answeringStep s = .next t ∧ Answering (n + 1) t := by
  obtain ⟨hpc, hdone⟩ := hwait
  have hn : n % 3337 = 6 := by
    have hposition : answeringPc n = 6 := h.position.symm.trans (congrArg Fin.val hpc)
    have hsignal : n % 3337 ≠ 7 := of_decide_eq_false (h.signal.symm.trans hdone)
    unfold answeringPc at hposition
    split_ifs at hposition <;> omega
  have hturn : answeringTurn s = .host := if_pos ⟨hpc, hdone⟩
  refine ⟨{ s with host := [], renderDone := true, turns := [] }, ?_, ?_⟩
  · obtain ⟨hfault, -⟩ := stopped_eq_none.mp h.running
    have hmoves : HostMovesFrom { s with host := [.renderDone], turns := [.host] }
        { s with host := [.renderDone], turns := [] } := .inl ⟨[], rfl, rfl⟩
    rw [answeringStep, hturn]
    exact step_of_hostMoves hmoves rfl (windowOpen_iff.mpr ⟨hfault, hpc, hdone⟩)
  · exact {
      running := (stopped_congr rfl rfl rfl).trans h.running
      blank := h.blank
      position := by rw [h.position, answeringPc, answeringPc]; split_ifs <;> omega
      signal := (decide_eq_true (by omega)).symm }

/-- Every other step is the sequencer's. -/
theorem Answering.sequencer_step {n : Nat} {s : State} (h : Answering n s) (hgo : ¬(s.seqPc = 6 ∧ s.renderDone = false)) :
    ∃ t, answeringStep s = .next t ∧ Answering (n + 1) t := by
  have hdone : s.seqPc = 6 → s.renderDone = true := fun hpc => by simpa using mt (.intro hpc) hgo
  have hturn : answeringTurn s = .sequencer := if_neg hgo
  have hn : n % 3337 ≠ 6 := fun hn => by
    have hposition : s.seqPc = 6 := Fin.ext (by rw [h.position, answeringPc, hn]; rfl)
    have hsignal : n % 3337 = 7 := of_decide_eq_true (h.signal.symm.trans (hdone hposition))
    omega
  have hsignal : s.seqPc = 6 ∨ s.renderDone = false := by
    rw [h.signal, decide_eq_false_iff_not]
    by_cases h7 : n % 3337 = 7
    · exact .inl (Fin.ext (by rw [h.position, answeringPc, h7]; rfl))
    · exact .inr h7
  obtain ⟨t, ht, hrun, hblank, hpc, hconsumed⟩ :=
    seqStep_goes_on (s := { s with host := [.renderDone], turns := [] }) ((stopped_congr rfl rfl rfl).trans h.running)
      h.blank hdone
  refine ⟨t, ?_, hrun, hblank, ?_, ?_⟩
  · rw [answeringStep, hturn, step_of_sequencerMoves (.inl ⟨[], rfl, rfl⟩)]
    exact ht
  · rw [hpc, nextPc_val, h.position, answeringPc, answeringPc]
    split_ifs <;> omega
  · rw [hconsumed hsignal, eq_comm, decide_eq_false_iff_not]
    omega

/-- The invariant holds along the run, so each of its steps has a next state. -/
theorem answeringRun_answering {c : Config} (hc : configValid c = true) (n : Nat) :
    answeringStep (answeringRun c n) = .next (answeringRun c (n + 1)) ∧ Answering n (answeringRun c n) := by
  have hstep {n : Nat} {s : State} (h : Answering n s) : ∃ t, answeringStep s = .next t ∧ Answering (n + 1) t :=
    (em _).elim h.host_step h.sequencer_step
  have hall : Answering n (answeringRun c n) := by
    induction n with
    | zero => exact boot_answering hc
    | succ n ih =>
      obtain ⟨t, ht, hnext⟩ := hstep ih
      rwa [answeringRun_succ ht]
  obtain ⟨t, ht, -⟩ := hstep hall
  exact ⟨by rwa [answeringRun_succ ht], hall⟩

/-- A tick of that run ends with the last of its 3337 steps. -/
theorem endsTick_of_answering {n : Nat} {s t : State} (hs : Answering n s) (ht : Answering (n + 1) t) :
    endsTick s t = decide (n % 3337 = 3336) := by
  have hpc : s.seqPc = 3335 ↔ n % 3337 = 3336 := by
    rw [Fin.ext_iff, hs.position]
    change answeringPc n = 3335 ↔ _
    unfold answeringPc
    split_ifs <;> omega
  have hback : n % 3337 = 3336 → t.seqPc = 0 := fun h => by
    have hn : (n + 1) % 3337 = 0 := by omega
    exact Fin.ext (by rw [ht.position, answeringPc, hn]; rfl)
  unfold endsTick
  rw [← Bool.decide_and, decide_eq_decide, hpc]
  exact and_iff_left_of_imp hback

/-- Settles O57: every 3337th step of `answeringRun` ends a tick. -/
theorem everyTickOfARunCanEnd : Obligations.EveryTickOfARunCanEnd := by
  intro c hc
  have hrun := answeringRun_answering hc
  have hends n : endsTick (answeringRun c n) (answeringRun c (n + 1)) = decide (n % 3337 = 3336) :=
    endsTick_of_answering (hrun n).2 (hrun (n + 1)).2
  have hticks n : ticksEnded (answeringRun c) n = n / 3337 := by
    induction n with
    | zero => rfl
    | succ n ih =>
      simp only [ticksEnded, ih, hends, decide_eq_true_eq]
      split_ifs <;> omega
  refine ⟨answeringRun c, fun n => ⟨_, _, _, ?_, (hrun n).1⟩, rfl, fun k hk => ⟨3337 * k - 1, ?_, ?_⟩⟩
  · unfold answeringTurn
    split_ifs
    · exact .inr rfl
    · exact .inl rfl
  · rw [hends, decide_eq_true_eq]
    omega
  · rw [hticks]
    omega

end Sys2Proof.Machine
end

section
/-! The classifier's micro-ops: SMP's edges, the three levels of EVAL, and the bound on a pressed button's clock
(41_classifier.md R120 to R131). -/

namespace Sys2Proof.Machine

/-! ### SMP (R122) -/

section

variable {c : Channel} {level : Bool} (now : Time)

theorem Channel.sampled_of_rising (hc : c.curLevel = false) (hlevel : level = true) :
    c.sampled now level =
      { c with
        prevLevel := false
        curLevel := true
        holdClk := 0
        pressStartedAt := now
        lastReleaseDur := c.holdClk
        pending := true } := by
  simp [Channel.sampled_eq, hc, hlevel]

theorem Channel.sampled_of_falling (hc : c.curLevel = true) (hlevel : level = false) :
    c.sampled now level = { c with prevLevel := true, curLevel := false, holdClk := 0, lastPressDur := c.holdClk } := by
  simp [Channel.sampled_eq, hc, hlevel]

/-- Without an edge the sample is recorded and nothing else. -/
theorem Channel.sampled_of_noEdge (hc : c.curLevel = level) : c.sampled now level = { c with prevLevel := c.curLevel } := by
  simp [Channel.sampled_eq, hc]

end

/-- Settles O16: SMP writes the drawn sample into button b's record, and each of the three cases has its equation. -/
theorem smpTakesTheLevelAndItsEdge : Obligations.SmpTakesTheLevelAndItsEdge := by
  intro b s
  refine ⟨_, execSmp_eq b s, ?_, fun b' hb => PerButton.get_set_other _ _ hb, rfl, rfl, rfl, rfl, ⟨rfl, rfl⟩, fun _ => rfl,
    ⟨rfl, rfl⟩, ⟨rfl, rfl⟩, rfl, rfl, rfl, rfl, rfl⟩
  rw [State.setBtn_btn, PerButton.get_set_same]
  intro l c d
  have hd : d = c.sampled s.nowMs l := rfl
  refine ⟨by rw [hd, Channel.sampled_eq], by rw [hd, Channel.sampled_eq], fun hc hl => ?_, fun hc hl => ?_, fun hc => ?_⟩
  · rw [hd, Channel.sampled_of_rising s.nowMs hc hl]
    exact ⟨rfl, rfl, rfl, rfl, rfl⟩
  · rw [hd, Channel.sampled_of_falling s.nowMs hc hl]
    exact ⟨rfl, rfl, rfl, rfl, rfl⟩
  · exact Channel.sampled_of_noEdge s.nowMs hc

/-! ### Which level EVAL takes (R123) -/

/-- A button is held over `t` when it is pressed with its clock above `t` (R121). -/
theorem heldOver_iff {c : Channel} {t : Nat} : heldOver c t = true ↔ c.curLevel = true ∧ t < c.holdClk.toNat := by
  simp [heldOver]

/-- Every pressed button's clock is at most `n`. -/
def PressedWithin (n : Nat) (v : PerButton Channel) : Prop :=
  ∀ b, (v.get b).curLevel = true → (v.get b).holdClk.toNat ≤ n

theorem pressedWithin_iff {n : Nat} {v : PerButton Channel} : PressedWithin n v ↔ ¬∃ b, heldOver (v.get b) n = true := by
  simp [PressedWithin, heldOver_iff]

theorem PressedWithin.mono {m n : Nat} {v : PerButton Channel} (h : PressedWithin m v) (hmn : m ≤ n) : PressedWithin n v :=
  fun b hb => (h b hb).trans hmn

theorem or_eq_true_iff_exists_button (f : Button → Bool) : (f .b0 || f .b1) = true ↔ ∃ b, f b = true := by
  rw [Bool.or_eq_true]
  exact ⟨fun h => h.elim (⟨.b0, ·⟩) (⟨.b1, ·⟩), fun ⟨b, hb⟩ => by cases b; exacts [.inl hb, .inr hb]⟩

section

variable {s : State}

theorem evalLevel_eq_reset_iff : evalLevel s = .reset ↔ ∃ b, heldOver (s.btn.get b) s.cfg.tReset = true := by
  rw [← or_eq_true_iff_exists_button fun b => heldOver (s.btn.get b) s.cfg.tReset]
  unfold evalLevel
  split_ifs with hreset <;> simpa [PerButton.get] using hreset

theorem evalLevel_of_pressedWithin (hwithin : PressedWithin s.cfg.tReset s.btn) :
    evalLevel s =
      if (decrementDue s.cfg s.btn.b0 || decrementDue s.cfg s.btn.b1) = true then .decrement else .increment := by
  rw [pressedWithin_iff, ← or_eq_true_iff_exists_button fun b => heldOver (s.btn.get b) s.cfg.tReset] at hwithin
  exact if_neg hwithin

theorem decrementDue_or_iff :
    (decrementDue s.cfg s.btn.b0 || decrementDue s.cfg s.btn.b1) = true ↔ ∃ b, decrementDue s.cfg (s.btn.get b) = true :=
  or_eq_true_iff_exists_button fun b => decrementDue s.cfg (s.btn.get b)

theorem evalLevel_of_decrementDue (hwithin : PressedWithin s.cfg.tReset s.btn)
    (hdue : ∃ b, decrementDue s.cfg (s.btn.get b) = true) : evalLevel s = .decrement :=
  (evalLevel_of_pressedWithin hwithin).trans (if_pos (decrementDue_or_iff.mpr hdue))

theorem evalLevel_of_noneDue (hwithin : PressedWithin s.cfg.tReset s.btn)
    (hdue : ¬∃ b, decrementDue s.cfg (s.btn.get b) = true) : evalLevel s = .increment :=
  (evalLevel_of_pressedWithin hwithin).trans (if_neg (mt decrementDue_or_iff.mp hdue))

/-! ### What EVAL writes at each level (R124 to R126) -/

theorem exec_eval_of_reset (h : evalLevel s = .reset) :
    exec .eval s = .next ((s.setEv (evWord true noButton noButton)).setBtn (s.btn.map Channel.restart)) := by
  change execEval s = _
  rw [execEval, h]

theorem exec_eval_of_decrement (h : evalLevel s = .decrement) :
    exec .eval s = .next ((s.setEv (evWord false (s.btn.map (decrementDue s.cfg)) noButton)).setBtn
      (s.btn.map (Channel.afterDecrement s.cfg))) := by
  change execEval s = _
  rw [execEval, h]

theorem exec_eval_of_increment (h : evalLevel s = .increment) :
    exec .eval s = .next ((s.setEv (evWord false noButton (s.btn.map (incrementDue s.cfg)))).setBtn
      (s.btn.map Channel.consumed)) := by
  change execEval s = _
  rw [execEval, h]

end

/-- Writing the event register and the channel records changes nothing else. -/
theorem setEv_setBtn_frame (s : State) (e : BitVec 5) (v : PerButton Channel) :
    let t := (s.setEv e).setBtn v
    t.nowMs = s.nowMs ∧ SameScores s t ∧ SamePanel s t ∧ SameMemory s t ∧ SameSequencer s t ∧ SameMarks s t ∧
      SameOutside s t ∧ SameEnv s t :=
  ⟨rfl, rfl, ⟨rfl, rfl⟩, fun _ => rfl, ⟨rfl, rfl⟩, ⟨rfl, rfl⟩, ⟨rfl, rfl, rfl, rfl, rfl⟩, rfl⟩

/-- Level 3's condition, taken apart (R126). -/
theorem incrementDue_iff {cfg : Config} {c : Channel} :
    incrementDue cfg c = true ↔ cfg.tDebounce < c.lastPressDur.toNat ∧ c.lastPressDur.toNat < cfg.tDec := by
  simp [incrementDue]

/-- Settles O18: a button held over T_RESET makes EVAL take level 1. -/
theorem evalLevelOneResets : Obligations.EvalLevelOneResets := by
  intro s hheld
  have hlevel : evalLevel s = .reset := evalLevel_eq_reset_iff.mpr (hheld.imp fun _ => heldOver_iff.mpr)
  refine ⟨_, exec_eval_of_reset hlevel, rfl, fun b => ?_, setEv_setBtn_frame ..⟩
  rw [State.setBtn_btn, PerButton.get_map, Channel.restart]

/-- Settles O19: level 2 writes `decrementDue` of each button into `ev`, and clears `pending` where it is true. -/
theorem evalLevelTwoDecrements : Obligations.EvalLevelTwoDecrements := by
  intro s due hwithin hdue
  have due_iff (b : Button) : decrementDue s.cfg (s.btn.get b) = true ↔ due b := decrementDue_iff
  have hlevel : evalLevel s = .decrement := evalLevel_of_decrementDue hwithin (hdue.imp fun b => (due_iff b).mpr)
  refine ⟨_, exec_eval_of_decrement hlevel, evReset_evWord .., fun b => ?_, setEv_setBtn_frame ..⟩
  rw [State.setBtn_ev, State.setBtn_btn, State.setEv_ev, evDec_evWord, evInc_evWord, PerButton.get_map, PerButton.get_map,
    Channel.afterDecrement]
  exact ⟨due_iff b, noButton_get b, fun h => if_pos ((due_iff b).mpr h), fun h => if_neg (mt (due_iff b).mp h)⟩

/-- Settles O20: level 3 writes `incrementDue` of each button into `ev`, and consumes every duration. -/
theorem evalLevelThreeIncrements : Obligations.EvalLevelThreeIncrements := by
  intro s hwithin hdec
  have hdue : ¬∃ b, decrementDue s.cfg (s.btn.get b) = true := fun ⟨b, hb⟩ =>
    have ⟨hpressed, hheld, hpending⟩ := decrementDue_iff.mp hb
    absurd (hdec b hpressed hpending) (Nat.not_le.mpr hheld)
  refine ⟨_, exec_eval_of_increment (evalLevel_of_noneDue hwithin hdue), evReset_evWord .., fun b => ?_, setEv_setBtn_frame ..⟩
  rw [State.setBtn_ev, State.setBtn_btn, State.setEv_ev, evDec_evWord, evInc_evWord, PerButton.get_map, PerButton.get_map]
  exact ⟨noButton_get b, incrementDue_iff, rfl⟩

/-! ### The clocks of the pressed buttons after each of the classifier's micro-ops (R131) -/

section

variable {s t : State} {n : Nat}

/-- ADV adds at most DT_MAX; a clock that wraps is the smaller for it. -/
theorem exec_adv_pressedWithin {dt : Dt} (h : exec (.adv dt) s = .next t) (hs : PressedWithin n s.btn) :
    PressedWithin (n + Config.dtMax) t.btn := by
  cases exec_writes h
  intro b hpressed
  rw [State.setBtn_btn, PerButton.get_map] at hpressed ⊢
  calc ((s.btn.get b).holdClk + dtOperand dt).toNat
    _ = ((s.btn.get b).holdClk.toNat + dt.toNat) % 2 ^ 32 := toNat_add_dtOperand ..
    _ ≤ (s.btn.get b).holdClk.toNat + dt.toNat := Nat.mod_le ..
    _ ≤ n + Config.dtMax := Nat.add_le_add (hs b hpressed) (Nat.le_of_lt_succ dt.isLt)

/-- A sample that presses the button restarts its clock, and one without an edge keeps it (R122). -/
theorem Channel.sampled_pressed {now : Time} {level : Bool} {c : Channel} (h : (c.sampled now level).curLevel = true) :
    (c.sampled now level).holdClk = 0 ∨ (c.curLevel = true ∧ (c.sampled now level).holdClk = c.holdClk) := by
  rw [Channel.sampled_eq] at h ⊢
  obtain rfl : level = true := h
  cases hc : c.curLevel with
  | false => exact .inl rfl
  | true => exact .inr ⟨rfl, rfl⟩

theorem exec_smp_pressedWithin {c : Button} (h : exec (.smp c) s = .next t) (hs : PressedWithin n s.btn) :
    PressedWithin n t.btn := by
  intro b hpressed
  by_cases hb : Instr.smp c = .smp b
  · cases hb
    rw [exec_smp_get h] at hpressed ⊢
    obtain hclk | ⟨hwas, hclk⟩ := Channel.sampled_pressed hpressed
    · rw [hclk]; exact Nat.zero_le n
    · rw [hclk]; exact hs c hwas
  · rw [exec_smp_other h rfl hb] at hpressed ⊢
    exact hs b hpressed

/-- After EVAL no pressed button's clock is above T_RESET: level 1 restarts the clocks, and the other levels are taken only
when none is above it (R123, R124). -/
theorem exec_eval_pressedWithin (h : exec .eval s = .next t) : PressedWithin s.cfg.tReset t.btn := by
  have within_of_level {level : EvalLevel} (hlevel : evalLevel s = level) (hne : level ≠ .reset) :
      PressedWithin s.cfg.tReset s.btn :=
    pressedWithin_iff.mpr (mt evalLevel_eq_reset_iff.mpr (hlevel ▸ hne))
  cases exec_writes h with
  | evalReset =>
    intro b _
    rw [State.setBtn_btn, PerButton.get_map]
    exact Nat.zero_le _
  | evalDecrement hlevel =>
    intro b hpressed
    rw [State.setBtn_btn, PerButton.get_map, Channel.afterDecrement_eq] at hpressed ⊢
    exact within_of_level hlevel nofun b hpressed
  | evalIncrement hlevel =>
    intro b hpressed
    rw [State.setBtn_btn, PerButton.get_map] at hpressed ⊢
    exact within_of_level hlevel nofun b hpressed

end

/-! ### The bound along the tick (R101, R131) -/

/-- The bound on a pressed button's clock when the sequencer stands at `pc`. -/
def clockLimit (cfg : Config) (pc : Nat) : Nat := cfg.tReset + if 1 ≤ pc ∧ pc ≤ 3 then Config.dtMax else 0

theorem clockBound_iff {s : State} : ClockBound s ↔ PressedWithin (clockLimit s.cfg s.seqPc.val) s.btn := Iff.rfl

theorem clockLimit_of_outside {pc : Nat} (h : ¬(1 ≤ pc ∧ pc ≤ 3)) (cfg : Config) : clockLimit cfg pc = cfg.tReset := by
  rw [clockLimit, if_neg h, Nat.add_zero]

/-- ADV apart, the bound does not grow along the tick. -/
theorem clockLimit_succ_le {pc : Nat} (h : pc ≠ 0) (cfg : Config) : clockLimit cfg (pc + 1) ≤ clockLimit cfg pc := by
  unfold clockLimit
  split_ifs <;> omega

theorem clockLimit_nextPc (cfg : Config) (pc : Fin 3336) : clockLimit cfg (nextPc pc).val = clockLimit cfg (pc.val + 1) := by
  rw [nextPc_val]
  split_ifs with h
  · rw [h]; rfl
  · rfl

/-- From position 4 on MP has no micro-op that writes a channel record (R101). -/
theorem mpInstr_after_eval (dt : Dt) {pc : Nat} (h : 4 ≤ pc) :
    (∀ dt', mpInstr dt pc ≠ .adv dt') ∧ (∀ b, mpInstr dt pc ≠ .smp b) ∧ mpInstr dt pc ≠ .eval := by
  unfold mpInstr
  split_ifs
  · interval_cases pc <;> exact ⟨nofun, nofun, nofun⟩
  · unfold subframeInstr
    split_ifs <;> exact ⟨nofun, nofun, nofun⟩
  · unfold dummyInstr
    split_ifs <;> exact ⟨nofun, nofun, nofun⟩

section

variable {dt : Dt} {s t : State}

/-- MP's micro-op at the sequencer position leaves the clocks within the next position's bound. -/
theorem exec_mpInstr_pressedWithin (h : exec (mpInstr dt s.seqPc.val) s = .next t) (hs : ClockBound s) :
    PressedWithin (clockLimit s.cfg (s.seqPc.val + 1)) t.btn := by
  rw [clockBound_iff] at hs
  generalize s.seqPc.val = pc at h hs ⊢
  obtain rfl | rfl | rfl | rfl | hpc : pc = 0 ∨ pc = 1 ∨ pc = 2 ∨ pc = 3 ∨ 4 ≤ pc := by omega
  · exact exec_adv_pressedWithin (dt := dt) h hs
  · exact exec_smp_pressedWithin (c := .b0) h hs
  · exact exec_smp_pressedWithin (c := .b1) h hs
  · exact exec_eval_pressedWithin h
  · obtain ⟨hadv, hsmp, heval⟩ := mpInstr_after_eval dt hpc
    rw [clockLimit_of_outside (by omega)] at hs ⊢
    exact exec_btn h hadv hsmp heval ▸ hs

/-- After ADV the sequencer goes on; anywhere else it may also stay. -/
theorem advancePc_mpInstr (h : exec (mpInstr dt s.seqPc.val) s = .next t) (hs : stopped s = none) (done : Bool) :
    (advancePc (mpInstr dt s.seqPc.val) done t).seqPc = nextPc s.seqPc ∨
      (s.seqPc.val ≠ 0 ∧ (advancePc (mpInstr dt s.seqPc.val) done t).seqPc = s.seqPc) := by
  have htpc : t.seqPc = s.seqPc := (exec_untouched h).seqPc
  rw [advancePc_eq_ite]
  split_ifs with hstay
  · refine .inr ⟨fun hpc => ?_, htpc⟩
    rw [hpc] at h hstay
    cases exec_writes (i := .adv dt) h
    obtain hfault | ⟨hi, -⟩ := hstay
    · simp [(stopped_eq_none.mp hs).1] at hfault
    · cases hi
  · exact .inl (congrArg nextPc htpc)

theorem clockBound_advancePc (h : exec (mpInstr dt s.seqPc.val) s = .next t) (hrun : stopped s = none) (hs : ClockBound s)
    (done : Bool) : ClockBound (advancePc (mpInstr dt s.seqPc.val) done t) := by
  have hwithin := exec_mpInstr_pressedWithin h hs
  have same := sameRegisters_advancePc (mpInstr dt s.seqPc.val) done t
  rw [clockBound_iff, same.btn, same.cfg, (exec_untouched h).cfg]
  obtain hnext | ⟨hpc, hstays⟩ := advancePc_mpInstr h hrun done
  · rw [hnext, clockLimit_nextPc]
    exact hwithin
  · rw [hstays]
    exact hwithin.mono (clockLimit_succ_le hpc s.cfg)

end

section

variable {s t u : State}

/-- The bound depends on the configuration, the records and the sequencer position only. -/
theorem ClockBound.congr (hs : ClockBound s) (same : SameRegisters s t) (hpc : t.seqPc = s.seqPc) : ClockBound t := by
  rw [clockBound_iff, same.btn, same.cfg, hpc]
  exact hs

theorem ClockBound.seqMoves (hu : ClockBound u) (h : SeqMoves u t) : ClockBound t := by
  have hfetch : ClockBound (fetch u).2 := hu.congr (sameRegisters_fetch u) (fetch_seqPc u)
  have hdecode := decode_fetch u
  obtain ⟨hrun, ⟨i, v, hi, hv, rfl⟩ | ⟨why, hi, rfl⟩⟩ := h
  · obtain rfl := Decoded.ok.inj (hi.symm.trans hdecode)
    have hrun' : stopped (fetch u).2 = none := by rw [fetch_state]; exact (stopped_congr rfl rfl rfl).trans hrun
    rw [← fetch_seqPc u] at hv ⊢
    exact clockBound_advancePc hv hrun' hfetch _
  · cases hi.symm.trans hdecode

theorem ClockBound.hostMoves (hu : ClockBound u) (h : HostMoves u t) : ClockBound t :=
  hu.congr h.sameRegisters (by rw [h.eq_with])

theorem ClockBound.drawHost (hs : ClockBound s) : ClockBound (drawHost s) :=
  hs.congr (sameRegisters_drawHost s) (by rw [drawHost_eq])

theorem ClockBound.setTurns (hs : ClockBound s) (ts : List Turn) : ClockBound (s.setTurns ts) :=
  hs.congr (sameRegisters_setTurns s ts) rfl

/-- RESET releases both buttons. -/
theorem clockBound_applyReset (s : State) : ClockBound s.applyReset := by
  intro b hpressed
  cases b <;> cases hpressed

end

/-- Settles O22: the sequencer's step keeps the bound position by position, and of the other moves under MP only RESET touches a
clock. The premise on T_RESET keeps ADV from wrapping; a clock that wrapped would be within the bound all the same, so the proof
does not use it. -/
theorem pressedClockStaysBounded : Obligations.PressedClockStaysBounded := by
  intro s t _ hturns hs h
  rcases step_cases h with ⟨ts, -, rfl⟩ | ⟨w, ts, hw, -⟩ | ⟨ts, -, hh⟩ | ⟨ts, -, hq⟩ | ⟨-, ⟨-, hh⟩ | ⟨-, hq⟩⟩
  · exact clockBound_applyReset _
  · rw [hw] at hturns
    cases hturns
  · exact (hs.setTurns ts).drawHost.hostMoves hh
  · exact (hs.setTurns ts).seqMoves hq
  · exact hs.drawHost.hostMoves hh
  · exact hs.drawHost.seqMoves hq

end Sys2Proof.Machine
end

section
/-! The score micro-ops, and the ranges of the scores along the tick (42_score.md R150 to R157). -/

namespace Sys2Proof.Machine

/-! ### Writing the scores -/

/-- Writing the score registers changes nothing else. -/
theorem setScore_frame (s : State) (v : PerButton Score) :
    let t := s.setScore v
    SameClassifier s t ∧ SamePanel s t ∧ SameMemory s t ∧ SameSequencer s t ∧ SameMarks s t ∧ SameOutside s t ∧ SameEnv s t :=
  ⟨⟨rfl, rfl, rfl⟩, ⟨rfl, rfl⟩, fun _ => rfl, ⟨rfl, rfl⟩, ⟨rfl, rfl⟩, ⟨rfl, rfl, rfl, rfl, rfl⟩, rfl⟩

theorem PerButton.get_same {α : Type} (x : α) (b : Button) : ({ b0 := x, b1 := x } : PerButton α).get b = x := by
  cases b <;> rfl

section

variable (s : State) (b : Button)

theorem clearScores_get : s.clearScores.score.get b = 0 := PerButton.get_same 0 b

theorem dropScore_get_same : (s.dropScore b).score.get b = s.score.get b - 1 := PerButton.get_set_same ..

theorem bumpScore_get_same : (s.bumpScore b).score.get b = s.score.get b + 1 := PerButton.get_set_same ..

variable {b} {b' : Button} (h : b' ≠ b)
include h

theorem dropScore_get_other : (s.dropScore b).score.get b' = s.score.get b' := PerButton.get_set_other _ _ h

theorem bumpScore_get_other : (s.bumpScore b).score.get b' = s.score.get b' := PerButton.get_set_other _ _ h

end

/-- Settles O27: RSTALL writes 0 into both score registers. -/
theorem rstallClearsTheScoresOnly : Obligations.RstallClearsTheScoresOnly := fun s =>
  ⟨s.clearScores, rfl, clearScores_get s, setScore_frame ..⟩

/-- Settles O26: INC and DEC write score b, an 8-bit word. -/
theorem incAndDecWrapAtTheScoreWidth : Obligations.IncAndDecWrapAtTheScoreWidth := by
  refine fun b s =>
    ⟨⟨s.bumpScore b, rfl, ?_, fun b' hb => bumpScore_get_other s hb, setScore_frame ..⟩,
      ⟨s.dropScore b, rfl, ?_, fun b' hb => dropScore_get_other s hb, setScore_frame ..⟩⟩
  · rw [bumpScore_get_same]
    exact BitVec.toNat_add ..
  · rw [dropScore_get_same, Nat.add_comm]
    exact BitVec.toNat_sub ..

/-! ### GUARD (R151) -/

theorem scoreOutOfRange_iff {cfg : Config} {v : PerButton Score} :
    scoreOutOfRange cfg v = true ↔ ∃ b, cfg.scoreMax < (v.get b).toNat :=
  (or_eq_true_iff_exists_button fun b => decide (cfg.scoreMax < (v.get b).toNat)).trans
    (exists_congr fun _ => decide_eq_true_iff)

/-- Settles O24: GUARD's condition is that some score is above SCORE_MAX. -/
theorem guardResetsBothOrNothing : Obligations.GuardResetsBothOrNothing := by
  refine fun s => ⟨_, execGuard_eq s, fun hout b => ?_, fun hin b => ?_, setScore_frame ..⟩
  · rw [State.setScore_score, if_pos (scoreOutOfRange_iff.mpr hout), PerButton.get_same]
  · have hnone : ¬∃ b, s.cfg.scoreMax < (s.score.get b).toNat := fun ⟨b, hb⟩ => Nat.not_lt.mpr (hin b) hb
    rw [State.setScore_score, if_neg (mt scoreOutOfRange_iff.mp hnone)]

/-! ### APPLY (R152) -/

theorem whenEvent_clearScores_get (bit : Bool) (s : State) (b : Button) :
    (whenEvent bit State.clearScores s).score.get b = if bit = true then 0#8 else s.score.get b := by
  cases bit with
  | false => rfl
  | true => exact clearScores_get s b

/-- Two events of one group, done for button 0 and then for button 1: each score sees its own button's event only. -/
theorem whenEvent_both_get {f : State → Button → State} {g : Score → Score}
    (hsame : ∀ s b, (f s b).score.get b = g (s.score.get b))
    (hother : ∀ s {b b'}, b' ≠ b → (f s b).score.get b' = s.score.get b') (bits : Button → Bool) (s : State) (b : Button) :
    (whenEvent (bits .b1) (f · .b1) (whenEvent (bits .b0) (f · .b0) s)).score.get b =
      if bits b = true then g (s.score.get b) else s.score.get b := by
  have own (s : State) : (whenEvent (bits b) (f · b) s).score.get b =
      if bits b = true then g (s.score.get b) else s.score.get b := by
    cases bits b with
    | false => rfl
    | true => exact hsame s b
  have skip {c : Button} (hc : b ≠ c) (bit : Bool) (s : State) : (whenEvent bit (f · c) s).score.get b = s.score.get b :=
    whenEvent_keeps (·.score.get b) (fun s => hother s hc) bit s
  cases b with
  | b0 => rw [skip (by decide), own]
  | b1 => rw [own, skip (by decide)]

/-- What APPLY makes of score b (R152). -/
theorem applyEvents_get (s : State) (b : Button) :
    s.applyEvents.score.get b =
      (if evReset s.ev = true then 0#8 else s.score.get b) - (if evDec s.ev b = true then 1#8 else 0#8) +
        (if evInc s.ev b = true then 1#8 else 0#8) := by
  unfold State.applyEvents
  rw [whenEvent_both_get (g := (· + 1)) bumpScore_get_same bumpScore_get_other (evInc s.ev),
    whenEvent_both_get (g := (· - 1)) dropScore_get_same dropScore_get_other (evDec s.ev), whenEvent_clearScores_get]
  cases evDec s.ev b <;> cases evInc s.ev b <;> simp

/-- Settles O25: `applyEvents_get` gives the scores, and APPLY writes nothing else. -/
theorem applyPerformsTheEvents : Obligations.ApplyPerformsTheEvents := fun s =>
  ⟨s.applyEvents, rfl, applyEvents_get s, s.applyEvents_eq ▸ setScore_frame ..⟩

/-! ### The ranges of the scores (R157) -/

/-- Both scores are at most SCORE_MAX. -/
def ScoresInRange (cfg : Config) (v : PerButton Score) : Prop := ∀ b, (v.get b).toNat ≤ cfg.scoreMax

/-- Each score is at most one above SCORE_MAX, or 255. -/
def ScoresNearRange (cfg : Config) (v : PerButton Score) : Prop :=
  ∀ b, (v.get b).toNat ≤ cfg.scoreMax + 1 ∨ (v.get b).toNat = 255

/-- The range of the scores when the sequencer stands at `pc`. -/
def ScoresFit (cfg : Config) (pc : Nat) (v : PerButton Score) : Prop :=
  if pc = 5 then ScoresInRange cfg v else ScoresNearRange cfg v

theorem scoreBound_iff {s : State} : ScoreBound s ↔ ScoresFit s.cfg s.seqPc.val s.score := by
  unfold ScoreBound ScoresFit
  split_ifs <;> rfl

section

variable {cfg : Config} {pc : Nat} {v : PerButton Score}

theorem scoresFit_five : ScoresFit cfg 5 v ↔ ScoresInRange cfg v := Iff.rfl

theorem scoresFit_of_ne (h : pc ≠ 5) : ScoresFit cfg pc v ↔ ScoresNearRange cfg v := iff_of_eq (if_neg h)

end

theorem scoresFit_nextPc {cfg : Config} {pc : Fin 3336} {v : PerButton Score} :
    ScoresFit cfg (nextPc pc).val v ↔ ScoresFit cfg (pc.val + 1) v := by
  rw [nextPc_val]
  split_ifs with h
  · rw [h, scoresFit_of_ne (by decide), scoresFit_of_ne (by decide)]
  · rfl

/-- A score in range that APPLY resets or keeps, decrements or not, and increments or not: only 0 - 1, which is 255, wraps
(R152, R157). -/
theorem near_of_inRange {x : Score} {n : Nat} (hx : x.toNat ≤ n) (reset dec inc : Bool) :
    let y := (if reset = true then 0#8 else x) - (if dec = true then 1#8 else 0#8) + (if inc = true then 1#8 else 0#8)
    y.toNat ≤ n + 1 ∨ y.toNat = 255 := by
  have hbase : (if reset = true then 0#8 else x).toNat ≤ n := by
    cases reset with
    | false => exact hx
    | true => exact Nat.zero_le n
  generalize (if reset = true then 0#8 else x) = base at hbase ⊢
  cases dec <;> cases inc <;> simp only [if_true, Bool.false_eq_true, if_false] <;> bv_omega

section

variable {dt : Dt} {s t : State}

theorem exec_guard_inRange (h : exec .guard s = .next t) : ScoresInRange s.cfg t.score := by
  obtain rfl := Host.Outcome.next.inj ((execGuard_eq s).symm.trans h)
  intro b
  rw [State.setScore_score]
  split_ifs with hout
  · rw [PerButton.get_same]
    exact Nat.zero_le _
  · exact Nat.not_lt.mp fun hb => hout (scoreOutOfRange_iff.mpr ⟨b, hb⟩)

theorem exec_apply_nearRange (h : exec .apply s = .next t) (hs : ScoresInRange s.cfg s.score) :
    ScoresNearRange s.cfg t.score := by
  obtain rfl := Host.Outcome.next.inj h
  intro b
  rw [applyEvents_get]
  exact near_of_inRange (hs b) ..

/-- Of MP's micro-ops only GUARD and APPLY, at positions 4 and 5, write the scores (R101). -/
theorem exec_mpInstr_score {pc : Nat} (h : exec (mpInstr dt pc) s = .next t) (h4 : pc ≠ 4) (h5 : pc ≠ 5) :
    t.score = s.score := by
  unfold mpInstr at h
  split_ifs at h
  · obtain hlt | rfl : pc < 4 ∨ pc = 6 := by omega
    · interval_cases pc <;> exact exec_score h nofun nofun nofun nofun nofun
    · exact exec_score h nofun nofun nofun nofun nofun
  · unfold subframeInstr at h
    split_ifs at h <;> exact exec_score h nofun nofun nofun nofun nofun
  · unfold dummyInstr at h
    split_ifs at h <;> exact exec_score h nofun nofun nofun nofun nofun

/-- MP's micro-op at the sequencer position leaves the scores in the next position's range. -/
theorem exec_mpInstr_scoresFit (h : exec (mpInstr dt s.seqPc.val) s = .next t) (hs : ScoreBound s) :
    ScoresFit s.cfg (s.seqPc.val + 1) t.score := by
  rw [scoreBound_iff] at hs
  generalize s.seqPc.val = pc at h hs ⊢
  obtain rfl | rfl | ⟨h4, h5⟩ : pc = 4 ∨ pc = 5 ∨ (pc ≠ 4 ∧ pc ≠ 5) := by omega
  · exact scoresFit_five.mpr (exec_guard_inRange h)
  · exact (scoresFit_of_ne (by decide)).mpr (exec_apply_nearRange h (scoresFit_five.mp hs))
  · rw [exec_mpInstr_score h h4 h5, scoresFit_of_ne (by omega)]
    exact (scoresFit_of_ne h5).mp hs

/-- The sequencer never stays before RWAIT: only LATCH, SETADDR and RWAIT can hold it (R100, R101). -/
theorem advancePc_mpInstr_of_running (h : exec (mpInstr dt s.seqPc.val) s = .next t) (hs : stopped s = none) (done : Bool) :
    (advancePc (mpInstr dt s.seqPc.val) done t).seqPc = nextPc s.seqPc ∨
      (6 ≤ s.seqPc.val ∧ (advancePc (mpInstr dt s.seqPc.val) done t).seqPc = s.seqPc) := by
  have htpc : t.seqPc = s.seqPc := (exec_untouched h).seqPc
  rw [advancePc_eq_ite]
  split_ifs with hstay
  · refine .inr ⟨?_, htpc⟩
    obtain hfault | ⟨hi, -⟩ := hstay
    · by_cases hneeds : NeedsBlank (mpInstr dt s.seqPc.val)
      · obtain ⟨k, j, -, -, hpc⟩ := position_of_needsBlank hneeds
        omega
      · exact absurd (exec_keeps_running h (mpInstr_wellFormed ..) (absurd · hneeds) hs) (stopped_ne_none_of_fault hfault)
    · exact (mpInstr_eq_rwait.mp hi).ge
  · exact .inl (congrArg nextPc htpc)

theorem advancePc_score (i : Instr) (done : Bool) (s : State) : (advancePc i done s).score = s.score := by
  rw [advancePc_eq]; rfl

theorem scoreBound_advancePc (h : exec (mpInstr dt s.seqPc.val) s = .next t) (hrun : stopped s = none) (hs : ScoreBound s)
    (done : Bool) : ScoreBound (advancePc (mpInstr dt s.seqPc.val) done t) := by
  have hcfg := (sameRegisters_advancePc (mpInstr dt s.seqPc.val) done t).cfg.trans (exec_untouched h).cfg
  rw [scoreBound_iff, hcfg, advancePc_score]
  obtain hnext | ⟨hpc, hstays⟩ := advancePc_mpInstr_of_running h hrun done
  · rw [hnext, scoresFit_nextPc]
    exact exec_mpInstr_scoresFit h hs
  · rw [hstays, exec_mpInstr_score h (by omega) (by omega)]
    exact scoreBound_iff.mp hs

end

section

variable {s t u : State}

/-- The ranges depend on the configuration, the scores and the sequencer position only. -/
theorem ScoreBound.congr (hs : ScoreBound s) (hcfg : t.cfg = s.cfg) (hscore : t.score = s.score) (hpc : t.seqPc = s.seqPc) :
    ScoreBound t := by
  rw [scoreBound_iff, hcfg, hscore, hpc]
  exact scoreBound_iff.mp hs

/-- A next state of the sequencer's turn is that of MP's micro-op at its position (R88, R100). -/
theorem SeqMoves.performs (h : SeqMoves u t) :
    stopped u = none ∧ ∃ v, exec (mpInstr (drawDt u).1 u.seqPc.val) (fetch u).2 = .next v ∧
      t = advancePc (mpInstr (drawDt u).1 u.seqPc.val) (fetch u).2.renderDone v := by
  have hdecode := decode_fetch u
  obtain ⟨hrun, ⟨i, v, hi, hv, rfl⟩ | ⟨why, hi, rfl⟩⟩ := h
  · obtain rfl := Decoded.ok.inj (hi.symm.trans hdecode)
    exact ⟨hrun, v, hv, rfl⟩
  · cases hi.symm.trans hdecode

theorem ScoreBound.seqMoves (hu : ScoreBound u) (h : SeqMoves u t) : ScoreBound t := by
  obtain ⟨hrun, v, hv, rfl⟩ := h.performs
  rw [fetch_state] at hv ⊢
  exact scoreBound_advancePc (s := u.setEnv (fetch u).2.env) hv ((stopped_congr rfl rfl rfl).trans hrun) (hu.congr rfl rfl rfl) _

theorem ScoreBound.hostMoves (hu : ScoreBound u) (h : HostMoves u t) : ScoreBound t := by
  rw [h.eq_with]; exact hu.congr rfl rfl rfl

theorem ScoreBound.drawHost (hs : ScoreBound s) : ScoreBound (drawHost s) := by
  rw [drawHost_eq]; exact hs.congr rfl rfl rfl

theorem ScoreBound.setTurns (hs : ScoreBound s) (ts : List Turn) : ScoreBound (s.setTurns ts) := hs.congr rfl rfl rfl

/-- RESET clears both scores and goes to position 0. -/
theorem scoreBound_applyReset (s : State) : ScoreBound s.applyReset :=
  scoreBound_iff.mpr fun b => .inl ((congrArg BitVec.toNat (PerButton.get_same 0 b)).trans_le (Nat.zero_le _))

end

/-- Settles O28: GUARD brings the scores into range, APPLY takes each by at most one out of it, and of the other moves under MP
only RESET writes a score. -/
theorem scoresStayInTheirRanges : Obligations.ScoresStayInTheirRanges := by
  intro s t hturns hs h
  rcases step_cases h with ⟨ts, -, rfl⟩ | ⟨w, ts, hw, -⟩ | ⟨ts, -, hh⟩ | ⟨ts, -, hq⟩ | ⟨-, ⟨-, hh⟩ | ⟨-, hq⟩⟩
  · exact scoreBound_applyReset _
  · rw [hw] at hturns
    cases hturns
  · exact (hs.setTurns ts).drawHost.hostMoves hh
  · exact (hs.setTurns ts).seqMoves hq
  · exact hs.drawHost.hostMoves hh
  · exact hs.drawHost.seqMoves hq

end Sys2Proof.Machine
end

section
/-! The words that each micro-op emits, and the scan-out micro-ops one by one (43_scanout.md R170 to R178). -/

namespace Sys2Proof.Machine

/-! ### The words of a micro-op (R171) -/

/-- A clocked word: the data, the clock's rising edge, the clock's return to idle (R172). -/
def clockWords (o : Bus) : List Bus := [o, { o with clk := true }, { o with clk := false }]

/-- LATCH's strobe, up and down (R174). -/
def strobeWords (o : Bus) : List Bus := [{ o with lat := true }, { o with lat := false }]

/-- The words that micro-op `i` emits in the state `s`, oldest first; none where it faults or is refused (R171 to R176). -/
def emitted (s : State) : Instr → List Bus
  | .shift ch p col =>
    match chanOf ch with
    | some c => clockWords (shiftOut s c p col)
    | none => []
  | .blank => [{ s.out with oeN := true }]
  | .latch => if s.out.oeN then strobeWords s.out else []
  | .setaddr p => if s.out.oeN then [{ s.out with a := p }] else []
  | .unblank => [{ s.out with oeN := false }]
  | _ => []

theorem emitted_shift {ch : BitVec 2} {c : Chan} (h : chanOf ch = some c) (s : State) (p : BitVec 4) (col : BitVec 6) :
    emitted s (.shift ch p col) = clockWords (shiftOut s c p col) := by
  simp only [emitted, h]

theorem emitted_latch {s : State} (h : s.out.oeN = true) : emitted s .latch = strobeWords s.out := if_pos h

theorem emitted_setaddr {s : State} (h : s.out.oeN = true) (p : BitVec 4) :
    emitted s (.setaddr p) = [{ s.out with a := p }] := if_pos h

/-- A micro-op appends its words to the trace and leaves OUT at the last of them. -/
theorem exec_emits {i : Instr} {s t : State} (h : exec i s = .next t) :
    t.traceRev = (emitted s i).reverse ++ s.traceRev ∧ t.out = (emitted s i).getLastD s.out := by
  cases i with
  | shift ch p col =>
    cases hc : chanOf ch with
    | some c =>
      cases (execShift_of_chan hc p col s).symm.trans h
      rw [emitted_shift hc]
      exact ⟨rfl, rfl⟩
    | none =>
      simp only [exec, execShift, hc] at h
      cases h
      simp only [emitted, hc]
      exact ⟨rfl, rfl⟩
  | blank | unblank => cases h; exact ⟨rfl, rfl⟩
  | latch =>
    cases hoe : s.out.oeN with
    | true => cases (execLatch_blank hoe).symm.trans h; rw [emitted_latch hoe]; exact ⟨rfl, rfl⟩
    | false => cases (execLatch_enabled hoe).symm.trans h; simp only [emitted, hoe]; exact ⟨rfl, rfl⟩
  | setaddr p =>
    cases hoe : s.out.oeN with
    | true => cases (execSetaddr_blank hoe p).symm.trans h; rw [emitted_setaddr hoe]; exact ⟨rfl, rfl⟩
    | false => cases (execSetaddr_enabled hoe p).symm.trans h; simp only [emitted, hoe]; exact ⟨rfl, rfl⟩
  | _ => cases exec_writes h <;> exact ⟨rfl, rfl⟩

theorem exec_trace {i : Instr} {s t : State} (h : exec i s = .next t) : t.trace = s.trace ++ emitted s i := by
  rw [State.trace, (exec_emits h).1, List.reverse_append, List.reverse_reverse]
  rfl

/-- A well-formed micro-op that finds OE_n as it needs it emits its fixed number of words. -/
theorem length_emitted {i : Instr} {s : State} (hwf : wellFormed i = true) (hblank : NeedsBlank i → s.out.oeN = true) :
    (emitted s i).length = wordsOf i := by
  cases i with
  | shift ch p col =>
    obtain ⟨c, hc⟩ := Option.isSome_iff_exists.mp (chanOf_isSome.mpr (bne_iff_ne.mp hwf))
    rw [emitted_shift hc]
    rfl
  | latch => rw [emitted_latch (hblank (.inl rfl))]; rfl
  | setaddr p => rw [emitted_setaddr (hblank (.inr ⟨p, rfl⟩))]; rfl
  | _ => rfl

/-- LATCH and SETADDR raise no fault only while OE_n = 1 (R174, R175). -/
theorem oeN_of_not_faulted {i : Instr} {s t : State} (h : exec i s = .next t) (hfault : t.fault = none) (hi : NeedsBlank i) :
    s.out.oeN = true := by
  by_contra hoe
  rw [Bool.not_eq_true] at hoe
  obtain rfl | ⟨p, rfl⟩ := hi
  · cases (execLatch_enabled hoe).symm.trans h
    cases hfault
  · cases (execSetaddr_enabled hoe p).symm.trans h
    cases hfault

/-- Settles O34: the words of a micro-op are `emitted`, and one that emits none leaves OUT alone. -/
theorem eachMicroOpEmitsItsWords : Obligations.EachMicroOpEmitsItsWords := by
  intro i s t hwf _ h hfault
  have hlength := length_emitted hwf (oeN_of_not_faulted h hfault)
  refine ⟨by rw [exec_trace h, List.length_append, hlength], ⟨_, (exec_trace h).symm⟩, fun hnone => ?_⟩
  rw [(exec_emits h).2, List.eq_nil_of_length_eq_zero (hlength.trans hnone)]
  rfl

/-! ### BLANK, UNBLANK, LATCH and SETADDR (R173 to R176) -/

/-- Writing the lines and the trace changes nothing else. -/
theorem setPanel_frame (s : State) (o : Bus) (words : List Bus) :
    let t := { s with out := o, traceRev := words }
    SameClassifier s t ∧ SameScores s t ∧ SameMemory s t ∧ SameSequencer s t ∧ SameMarks s t ∧ SameOutside s t ∧ SameEnv s t :=
  ⟨⟨rfl, rfl, rfl⟩, rfl, fun _ => rfl, ⟨rfl, rfl⟩, ⟨rfl, rfl⟩, ⟨rfl, rfl, rfl, rfl, rfl⟩, rfl⟩

/-- Settles O31: each drives OE_n and emits that word. -/
theorem blankAndUnblankDriveOutputEnable : Obligations.BlankAndUnblankDriveOutputEnable := fun _ =>
  ⟨⟨_, rfl, rfl, State.drive_trace .., setPanel_frame ..⟩, _, rfl, rfl, State.drive_trace .., setPanel_frame ..⟩

/-- Settles O32: the check of OE_n decides between the strobe and the fault. -/
theorem latchStrobesOnlyWhileBlank : Obligations.LatchStrobesOnlyWhileBlank := by
  refine fun s => ⟨fun hoe => ?_, execLatch_enabled⟩
  have h : exec .latch s = _ := execLatch_blank hoe
  exact ⟨_, h, (exec_trace h).trans (congrArg (s.trace ++ ·) (emitted_latch hoe)), rfl, setPanel_frame ..⟩

/-- SETADDR's word, as R175 writes it. -/
theorem encode_setaddr (p : BitVec 4) : encode (.setaddr p) = 0xD000#16 ||| p.zeroExtend 16 <<< 6 := by
  revert p
  decide

/-- Settles O33: the check of OE_n decides between the row address and the fault. -/
theorem setaddrDrivesTheRowOnlyWhileBlank : Obligations.SetaddrDrivesTheRowOnlyWhileBlank := by
  refine fun p s => ⟨fun hoe => ?_, fun hoe => ?_⟩
  · exact ⟨_, execSetaddr_blank hoe p, rfl, State.drive_trace .., setPanel_frame ..⟩
  · rw [← encode_setaddr]
    exact execSetaddr_enabled hoe p

/-! ### SHIFT (R172, R177, R178) -/

/-- What SHIFT leaves on a line of another channel: 0 under ZERO, what it carried under HOLD (R172). -/
def undrivenLine (s : State) (l : Line) : Bool :=
  match s.cfg.inactive with
  | .zero => false
  | .hold => s.out.line l

/-- What each data line carries in SHIFT's data phase. -/
theorem shiftOut_line (s : State) (c : Chan) (p : BitVec 4) (col : BitVec 6) (l : Line) :
    (shiftOut s c p col).line l =
      if l = upperLine c then s.fbRead (chanCode c) p.toNat col.toNat
      else if l = lowerLine c then s.fbRead (chanCode c) (p.toNat + 16) col.toNat
      else undrivenLine s l := by
  unfold shiftOut Bus.shiftData undrivenLine
  cases s.cfg.inactive <;> cases c <;> cases l <;> rfl

/-- SHIFT's data phase leaves the strobes, OE_n and A as they are. -/
theorem shiftOut_controls (s : State) (c : Chan) (p : BitVec 4) (col : BitVec 6) :
    (shiftOut s c p col).clk = s.out.clk ∧ (shiftOut s c p col).lat = s.out.lat ∧
      (shiftOut s c p col).oeN = s.out.oeN ∧ (shiftOut s c p col).a = s.out.a := by
  unfold shiftOut Bus.shiftData
  cases s.cfg.inactive <;> cases c <;> exact ⟨rfl, rfl, rfl, rfl⟩

theorem lowerLine_ne_upperLine (c : Chan) : lowerLine c ≠ upperLine c := by cases c <;> decide

/-- Settles O30: `shiftOut_line` and `shiftOut_controls` say what SHIFT drives. -/
theorem shiftDrivesAndClocksOnePair : Obligations.ShiftDrivesAndClocksOnePair := by
  intro ch c p col s hc
  obtain ⟨hclk, hlat, hoe, ha⟩ := shiftOut_controls s c p col
  refine ⟨_, shiftOut s c p col, execShift_of_chan hc p col s, ?_, ?_, fun l hu hl => ?_, hclk, hlat, hoe, ha,
    State.clockOut_trace .., rfl, setPanel_frame ..⟩
  · rw [shiftOut_line, if_pos rfl, chanCode_of_chan hc]
  · rw [shiftOut_line, if_neg (lowerLine_ne_upperLine c), if_pos rfl, chanCode_of_chan hc]
  · exact (shiftOut_line ..).trans ((if_neg hu).trans (if_neg hl))

end Sys2Proof.Machine
end

section
/-! What a step does to the panel lines and the trace: the protocol and the dark frame (43_scanout.md R170, R179, R189). -/

namespace Sys2Proof.Machine

/-! ### What a step does to the lines -/

/-- The lines and the trace are the same. -/
structure SameLines (s t : State) : Prop where
  out : t.out = s.out
  traceRev : t.traceRev = s.traceRev

theorem SameLines.trans {s t u : State} (h : SameLines s t) (h' : SameLines t u) : SameLines s u :=
  ⟨h'.out.trans h.out, h'.traceRev.trans h.traceRev⟩

theorem HostMoves.sameLines {u t : State} (h : HostMoves u t) : SameLines u t := by
  rw [h.eq_with]; exact ⟨rfl, rfl⟩

/-- All that a step can do to the lines: a RESET, one micro-op, or nothing. -/
inductive LineMove (s t : State) : Prop
  | reset (out : t.out = Bus.reset) (traceRev : t.traceRev = [])
  | perform (i : Instr) (u v : State) (before : SameLines s u) (fb : u.fb = s.fb) (performed : exec i u = .next v)
      (after : SameLines v t)
  | idle (same : SameLines s t)

section

variable {s u t : State} (hu : SameLines s u)
include hu

theorem SeqMoves.lineMove (hfb : u.fb = s.fb) (h : SeqMoves u t) : LineMove s t := by
  obtain ⟨-, v, hv, rfl⟩ := h.performs
  refine .perform _ _ v ?_ ?_ hv ?_
  · rw [fetch_state]; exact ⟨hu.out, hu.traceRev⟩
  · rw [fetch_state]; exact hfb
  · rw [advancePc_eq]; exact ⟨rfl, rfl⟩

theorem IssueMoves.lineMove {w : Word} (hfb : u.fb = s.fb) (h : IssueMoves w u t) : LineMove s t := by
  obtain ⟨-, ⟨i, -, ht⟩ | ⟨-, -, rfl⟩⟩ := h
  · exact .perform i u t hu hfb ht ⟨rfl, rfl⟩
  · exact .idle ⟨hu.out, hu.traceRev⟩

theorem HostMoves.lineMove (h : HostMoves u t) : LineMove s t :=
  .idle (hu.trans h.sameLines)

end

theorem sameLines_setTurns (s : State) (ts : List Turn) : SameLines s (s.setTurns ts) := ⟨rfl, rfl⟩

theorem sameLines_drawHost (s : State) : SameLines s (drawHost s) := by
  rw [drawHost_eq]; exact ⟨rfl, rfl⟩

theorem step_lineMove {s t : State} (h : step s = .next t) : LineMove s t := by
  rcases step_cases h with ⟨ts, -, rfl⟩ | ⟨w, ts, -, hw⟩ | ⟨ts, -, hh⟩ | ⟨ts, -, hq⟩ | ⟨-, ⟨-, hh⟩ | ⟨-, hq⟩⟩
  · exact .reset rfl rfl
  · exact hw.lineMove (sameLines_setTurns s ts) rfl
  · exact hh.lineMove ((sameLines_setTurns s ts).trans (sameLines_drawHost _))
  · exact hq.lineMove (sameLines_setTurns s ts) rfl
  · exact hh.lineMove (sameLines_drawHost s)
  · exact hq.lineMove (sameLines_drawHost s) (drawHost_fb s)

/-! ### The protocol along the trace (R170, R179) -/

/-- The protocol between two neighbouring words, as a proposition. -/
def Follows (w' w : Bus) : Prop := protocolOk w' w = true

theorem traceOk_cons {w w' : Bus} {l : List Bus} (hl : l.head? = some w') (hok : traceOk l = true) (hw : Follows w' w) :
    traceOk (w :: l) = true := by
  cases l with
  | nil => cases hl
  | cons x xs =>
    cases hl
    exact Bool.and_eq_true _ _ |>.mpr ⟨hw, hok⟩

/-- Words that follow one another from the trace's newest word on extend the trace. -/
theorem traceOk_append {w' : Bus} {l ws : List Bus} (hl : l.head? = some w') (hok : traceOk l = true)
    (hws : List.IsChain Follows (w' :: ws)) :
    traceOk (ws.reverse ++ l) = true ∧ (ws.reverse ++ l).head? = some (ws.getLastD w') := by
  induction ws generalizing w' l with
  | nil => exact ⟨hok, hl⟩
  | cons w ws ih =>
    obtain ⟨hw, hws⟩ := List.isChain_cons_cons.mp hws
    rw [List.reverse_cons, List.append_assoc, List.getLastD_cons]
    exact ih rfl (traceOk_cons hl hok hw) hws

section

variable {o : Bus}

/-- Changing the data lines keeps the protocol while the strobes are idle. -/
theorem follows_data {o' : Bus} (hclk : o'.clk = false) (hlat : o'.lat = false) (hoe : o'.oeN = o.oeN) (ha : o'.a = o.a) :
    Follows o o' := by
  simp [Follows, protocolOk, hclk, hlat, hoe, ha]

theorem clockWords_isChain (hlat : o.lat = false) : List.IsChain Follows (clockWords o) := by
  simp [clockWords, Follows, protocolOk, sameData, hlat]

theorem follows_blank (hclk : o.clk = false) : Follows o { o with oeN := true } := by
  simp [Follows, protocolOk, hclk]

theorem strobeWords_isChain (hclk : o.clk = false) (hoe : o.oeN = true) : List.IsChain Follows (o :: strobeWords o) := by
  simp [strobeWords, Follows, protocolOk, hclk, hoe]

theorem follows_setaddr (hclk : o.clk = false) (hlat : o.lat = false) (hoe : o.oeN = true) (p : BitVec 4) :
    Follows o { o with a := p } := by
  simp [Follows, protocolOk, hclk, hlat, hoe]

theorem follows_unblank (hclk : o.clk = false) (hlat : o.lat = false) : Follows o { o with oeN := false } := by
  obtain ⟨clk, lat, oeN, r1, r2, g1, g2, b1, b2, a⟩ := o
  obtain rfl : clk = false := hclk
  obtain rfl : lat = false := hlat
  cases oeN <;> simp [Follows, protocolOk]

end

/-- The words of a micro-op keep the protocol and leave the strobes idle when it finds them so. -/
theorem emitted_follow {s : State} (hclk : s.out.clk = false) (hlat : s.out.lat = false) (i : Instr) :
    List.IsChain Follows (s.out :: emitted s i) ∧ ((emitted s i).getLastD s.out).clk = false ∧
      ((emitted s i).getLastD s.out).lat = false := by
  cases i with
  | shift ch p col =>
    cases hc : chanOf ch with
    | none => simpa [emitted, hc] using ⟨hclk, hlat⟩
    | some c =>
      obtain ⟨hclk', hlat', hoe, ha⟩ := shiftOut_controls s c p col
      rw [emitted_shift hc]
      have hdata := follows_data (hclk'.trans hclk) (hlat'.trans hlat) hoe ha
      exact ⟨List.isChain_cons_cons.mpr ⟨hdata, clockWords_isChain (hlat'.trans hlat)⟩, rfl, hlat'.trans hlat⟩
  | blank => exact ⟨List.isChain_pair.mpr (follows_blank hclk), hclk, hlat⟩
  | latch =>
    cases hoe : s.out.oeN with
    | false => simpa [emitted, hoe] using ⟨hclk, hlat⟩
    | true => rw [emitted_latch hoe]; exact ⟨strobeWords_isChain hclk hoe, hclk, rfl⟩
  | setaddr p =>
    cases hoe : s.out.oeN with
    | false => simpa [emitted, hoe] using ⟨hclk, hlat⟩
    | true => rw [emitted_setaddr hoe]; exact ⟨List.isChain_pair.mpr (follows_setaddr hclk hlat hoe p), hclk, hlat⟩
  | unblank => exact ⟨List.isChain_pair.mpr (follows_unblank hclk hlat), hclk, hlat⟩
  | _ => exact ⟨List.isChain_singleton _, hclk, hlat⟩

theorem TraceInv.exec {i : Instr} {s t : State} (hs : TraceInv s) (h : exec i s = .next t) : TraceInv t := by
  obtain ⟨htrace, hout⟩ := exec_emits h
  obtain ⟨hfollow, hclk, hlat⟩ := emitted_follow hs.clkIdle hs.latIdle i
  obtain ⟨hok, hlast⟩ := traceOk_append hs.endsInOut hs.protocol hfollow
  rw [← hout] at hclk hlat hlast
  rw [← List.append_assoc, ← htrace] at hok hlast
  exact ⟨hok, hlast, hclk, hlat⟩

/-- The protocol invariant depends on the lines and the trace only. -/
theorem TraceInv.congr {s t : State} (hs : TraceInv s) (same : SameLines s t) : TraceInv t where
  protocol := same.traceRev ▸ hs.protocol
  endsInOut := same.traceRev ▸ same.out ▸ hs.endsInOut
  clkIdle := same.out ▸ hs.clkIdle
  latIdle := same.out ▸ hs.latIdle

/-- Settles O35: the words of each micro-op follow one another by the protocol, and nothing else but RESET touches the lines. -/
theorem traceKeepsTheProtocol : Obligations.TraceKeepsTheProtocol := by
  intro s t hs h
  cases step_lineMove h with
  | reset out traceRev =>
    exact ⟨by rw [traceRev]; rfl, by rw [traceRev, out]; rfl, by rw [out]; rfl, by rw [out]; rfl⟩
  | perform i u v before _ performed after => exact ((hs.congr before).exec performed).congr after
  | idle same => exact hs.congr same

/-! ### The dark frame (R189) -/

theorem Bus.dark_iff {o : Bus} : o.dark = true ↔ ∀ l, o.line l = false := by
  constructor
  · intro h l
    simp only [Bus.dark, Bool.and_eq_true, Bool.not_eq_true'] at h
    cases l <;> simp [Bus.line, h]
  · intro h
    simp only [Bus.dark, show o.r1 = false from h .r1, show o.r2 = false from h .r2, show o.g1 = false from h .g1,
      show o.g2 = false from h .g2, show o.b1 = false from h .b1, show o.b2 = false from h .b2]
    rfl

/-- SHIFT drives 0 on every line when the frame buffer is all 0 and the lines were dark. -/
theorem shiftOut_dark {s : State} (hfb : s.fb = []) (hdark : s.out.dark = true) (c : Chan) (p : BitVec 4) (col : BitVec 6) :
    (shiftOut s c p col).dark = true := by
  have hread ch r k : s.fbRead ch r k = false := by simp [State.fbRead, hfb]
  have hrest l : undrivenLine s l = false := by
    unfold undrivenLine
    cases s.cfg.inactive with
    | zero => rfl
    | hold => exact Bus.dark_iff.mp hdark l
  refine Bus.dark_iff.mpr fun l => ?_
  rw [shiftOut_line, hread, hread, hrest, ite_self, ite_self]

theorem emitted_dark {s : State} (hfb : s.fb = []) (hdark : s.out.dark = true) (i : Instr) :
    ∀ w ∈ emitted s i, w.dark = true := by
  cases i with
  | shift ch p col =>
    cases hc : chanOf ch with
    | none => simp [emitted, hc]
    | some c =>
      have ho := shiftOut_dark hfb hdark c p col
      simpa [emitted_shift hc, clockWords] using ⟨ho, ho, ho⟩
  | blank | unblank => exact List.forall_mem_singleton.mpr hdark
  | latch =>
    cases hoe : s.out.oeN with
    | false => simp [emitted, hoe]
    | true => simpa [emitted_latch hoe, strobeWords] using ⟨hdark, hdark⟩
  | setaddr p =>
    cases hoe : s.out.oeN with
    | false => simp [emitted, hoe]
    | true => rw [emitted_setaddr hoe]; exact List.forall_mem_singleton.mpr hdark
  | _ => simp [emitted]

/-- Every data line is and was low. -/
structure DarkLines (s : State) : Prop where
  out : s.out.dark = true
  trace : s.traceRev.all Bus.dark = true

theorem DarkLines.congr {s t : State} (hs : DarkLines s) (same : SameLines s t) : DarkLines t :=
  ⟨same.out ▸ hs.out, same.traceRev ▸ hs.trace⟩

theorem DarkLines.exec {i : Instr} {s t : State} (hs : DarkLines s) (hfb : s.fb = []) (h : exec i s = .next t) :
    DarkLines t := by
  obtain ⟨htrace, hout⟩ := exec_emits h
  have hwords := emitted_dark hfb hs.out i
  constructor
  · rw [hout, List.getLastD_eq_getLast?]
    cases hlast : (emitted s i).getLast? with
    | none => exact hs.out
    | some w => exact hwords w (List.mem_of_getLast? hlast)
  · rw [htrace, List.all_append, List.all_reverse, hs.trace, List.all_eq_true.mpr hwords]
    rfl

theorem step_darkLines {s t : State} (hs : DarkLines s) (hfb : s.fb = []) (h : step s = .next t) : DarkLines t := by
  cases step_lineMove h with
  | reset out traceRev => exact ⟨by rw [out]; rfl, by rw [traceRev]; rfl⟩
  | perform i u v before fb performed after => exact ((hs.congr before).exec (fb.trans hfb) performed).congr after
  | idle same => exact hs.congr same

/-- Settles O38: the lines stay dark micro-op by micro-op, and only an FBWrite of a 1 lists a cell. -/
theorem allZeroFrameStaysDark : Obligations.AllZeroFrameStaysDark := by
  intro s t hs h
  have hlines := step_darkLines ⟨hs.outDark, hs.traceDark⟩ hs.fbEmpty h
  refine ⟨hlines.out, hlines.trace, fun hwrite => ⟨?_, hlines.out, hlines.trace⟩⟩
  obtain ⟨-, ht⟩ | ht | ⟨-, ch, r, c, v, qs, hq, -, -, ht⟩ := step_fb h
  · exact ht
  · exact ht.trans hs.fbEmpty
  · cases v with
    | true => exact absurd hq (hwrite ch r c qs)
    | false => rw [ht, drawHost_fb, hs.fbEmpty]; rfl

end Sys2Proof.Machine
end

section
/-! MP by position, and the invariant of the runs under it (40_sequencer.md R101, 43_scanout.md R181 to R185). -/

namespace Sys2Proof.Machine

/-! ### What MP has at each position (R101) -/

/-- What MP has at position `pc`: before position 7 a micro-op that emits nothing, and from there on position `j` of subframe
`k`. The dummy cycle counts as subframe 48, which ends at its BLANK. -/
inductive MpAt (pc : Nat) : Instr → Prop
  | head {i : Instr} (position : pc < 7) (quiet : wordsOf i = 0) : MpAt pc i
  | shift {k j : Nat} {ch : BitVec 2} {c : Chan} (p : BitVec 4) (col : BitVec 6) (subframe : k ≤ 48) (column : j < 64)
      (position : pc = 7 + 68 * k + j) (chan : chanOf ch = some c) : MpAt pc (.shift ch p col)
  | blank {k : Nat} (subframe : k ≤ 48) (position : pc = 7 + 68 * k + 64) : MpAt pc .blank
  | latch {k : Nat} (subframe : k < 48) (position : pc = 7 + 68 * k + 65) : MpAt pc .latch
  | setaddr {k : Nat} (subframe : k < 48) (position : pc = 7 + 68 * k + 66) : MpAt pc (.setaddr (BitVec.ofNat 4 (k / 3)))
  | unblank {k : Nat} (subframe : k < 48) (position : pc = 7 + 68 * k + 67) : MpAt pc .unblank

theorem subframeInstr_at {k j : Nat} (hk : k < 48) (hj : j < 68) : MpAt (7 + 68 * k + j) (subframeInstr k j) := by
  have hch : ∀ n < 3, (chanOf (BitVec.ofNat 2 n)).isSome = true := by decide
  unfold subframeInstr
  split_ifs with hshift hblank hlatch hsetaddr
  · obtain ⟨c, hc⟩ := Option.isSome_iff_exists.mp (hch (k % 3) (Nat.mod_lt _ (by decide)))
    exact .shift _ _ hk.le hshift rfl hc
  · exact .blank hk.le (by omega)
  · exact .latch hk (by omega)
  · exact .setaddr hk (by omega)
  · exact .unblank hk (by omega)

theorem dummyInstr_at {j : Nat} (hj : j < 65) : MpAt (7 + 68 * 48 + j) (dummyInstr j) := by
  unfold dummyInstr
  split_ifs with hshift
  · exact .shift (c := .b) _ _ le_rfl hshift rfl rfl
  · exact .blank le_rfl (by omega)

theorem mpInstr_at (dt : Dt) {pc : Nat} (hpc : pc < 3336) : MpAt pc (mpInstr dt pc) := by
  unfold mpInstr
  split_ifs with hhead hrows
  · exact .head hhead (by interval_cases pc <;> rfl)
  · convert subframeInstr_at (k := (pc - 7) / 68) (j := (pc - 7) % 68) (by omega) (Nat.mod_lt _ (by decide)) using 1
    omega
  · convert dummyInstr_at (j := pc - 3271) (by omega) using 1
    omega

/-- Settles O9: each of LATCH, SETADDR and UNBLANK stands at one position of a subframe, and the subframe has the micro-op asked
for at the position before it. -/
theorem subframeClosesInOrder : Obligations.SubframeClosesInOrder := by
  intro dt pc hpc
  have hat := mpInstr_at dt hpc
  refine ⟨fun h => ?_, fun p h => ?_, fun h => ?_⟩
  · rw [h] at hat
    cases hat with
    | head _ quiet => cases quiet
    | latch hk hpos =>
      subst hpos
      exact ⟨by omega, mpInstr_subframe dt hk (j := 64) (by decide)⟩
  · rw [h] at hat
    cases hat with
    | head _ quiet => cases quiet
    | setaddr hk hpos =>
      subst hpos
      exact ⟨by omega, mpInstr_subframe dt hk (j := 65) (by decide)⟩
  · rw [h] at hat
    cases hat with
    | head _ quiet => cases quiet
    | unblank hk hpos =>
      subst hpos
      exact ⟨by omega, _, mpInstr_subframe dt hk (j := 66) (by decide)⟩

/-! ### The lines along the tick (R181, R185) -/

theorem windowAt_iff {pc : Nat} : windowAt pc = true ↔ 75 ≤ pc ∧ (pc - 7) % 68 ≤ 64 := by
  simp [windowAt]

theorem windowAt_eq_false {pc : Nat} : windowAt pc = false ↔ ¬(75 ≤ pc ∧ (pc - 7) % 68 ≤ 64) := by
  rw [← windowAt_iff, Bool.not_eq_true]

/-- The window opens after UNBLANK and shuts after BLANK only. -/
theorem windowAt_succ {pc : Nat} (hpc : pc < 7 ∨ (pc - 7) % 68 < 64) : windowAt (pc + 1) = windowAt pc := by
  rw [Bool.eq_iff_iff, windowAt_iff, windowAt_iff]
  omega

/-- `a` is the row that A holds when the sequencer stands at `pc`. -/
def RowFits (pc : Nat) (a : BitVec 4) : Prop := if 74 ≤ pc then a.toNat = rowAt pc else a = 0 ∨ a = 15

/-- The row changes after SETADDR only. -/
theorem RowFits.succ {pc : Nat} {a : BitVec 4} (h : RowFits pc a) (hpc : (pc - 7) % 68 ≠ 66) : RowFits (pc + 1) a := by
  unfold RowFits rowAt at *
  split_ifs at h ⊢
  · omega
  · omega
  · omega
  · exact h

/-- The row of subframe `k` after its SETADDR. -/
theorem rowFits_setaddr {k : Nat} (hk : k < 48) : RowFits (7 + 68 * k + 67) (BitVec.ofNat 4 (k / 3)) := by
  rw [RowFits, if_pos (by omega), rowAt, BitVec.toNat_ofNat]
  omega

/-- The lines when the sequencer stands at `pc`: the strobes are idle, OE_n is 0 in the display windows, A holds the row. -/
structure LinesAt (pc : Nat) (o : Bus) : Prop where
  clk : o.clk = false
  lat : o.lat = false
  oeN : o.oeN = !windowAt pc
  row : RowFits pc o.a

theorem LinesAt.blank {pc : Nat} {o : Bus} (h : LinesAt pc o) (hpc : ¬(75 ≤ pc ∧ (pc - 7) % 68 ≤ 64)) : o.oeN = true := by
  rw [h.oeN, windowAt_eq_false.mpr hpc]
  rfl

/-- The last position's lines are those of the next tick's first position (R183). -/
theorem LinesAt.nextPc {pc : Fin 3336} {o : Bus} (h : LinesAt (pc.val + 1) o) : LinesAt (nextPc pc).val o := by
  rw [nextPc_val]
  split_ifs with hlast
  · obtain ⟨hclk, hlat, hoe, hrow⟩ := h
    rw [hlast] at hoe hrow
    exact ⟨hclk, hlat, hoe, .inr (BitVec.eq_of_toNat_eq hrow)⟩
  · exact h

theorem emitted_of_quiet {i : Instr} (h : wordsOf i = 0) (s : State) : emitted s i = [] := by
  cases i with
  | shift | blank | latch | setaddr | unblank => cases h
  | _ => rfl

/-- Each micro-op of MP takes the lines to the next position's. -/
theorem LinesAt.exec {dt : Dt} {pc : Nat} {s t : State} (hpc : pc < 3336) (hs : LinesAt pc s.out)
    (h : exec (mpInstr dt pc) s = .next t) : LinesAt (pc + 1) t.out := by
  have hat := mpInstr_at dt hpc
  have hblank := hs.blank
  obtain ⟨hclk, hlat, hoe, hrow⟩ := hs
  rw [(exec_emits h).2]
  generalize mpInstr dt pc = i at hat
  cases hat with
  | head position quiet =>
    rw [emitted_of_quiet quiet]
    exact ⟨hclk, hlat, by rw [windowAt_succ (.inl position)]; exact hoe, hrow.succ (by omega)⟩
  | shift p col _ column position chan =>
    obtain ⟨-, hlat', hoe', ha'⟩ := shiftOut_controls s _ p col
    rw [emitted_shift chan]
    refine ⟨rfl, hlat'.trans hlat, ?_, ?_⟩
    · rw [windowAt_succ (.inr (by omega))]
      exact hoe'.trans hoe
    · exact RowFits.succ (a := (shiftOut s _ p col).a) (ha' ▸ hrow) (by omega)
  | blank _ position =>
    have hshut : windowAt (pc + 1) = false := windowAt_eq_false.mpr (by omega)
    exact ⟨hclk, hlat, by rw [hshut]; rfl, hrow.succ (by omega)⟩
  | latch _ position =>
    have hshut : windowAt (pc + 1) = windowAt pc := by
      rw [windowAt_eq_false.mpr (by omega), windowAt_eq_false.mpr (by omega)]
    rw [emitted_latch (hblank (by omega))]
    exact ⟨hclk, rfl, by rw [hshut]; exact hoe, hrow.succ (by omega)⟩
  | setaddr subframe position =>
    have hshut : windowAt (pc + 1) = false := windowAt_eq_false.mpr (by omega)
    rw [emitted_setaddr (hblank (by omega))]
    exact ⟨hclk, hlat, by rw [hshut]; exact hblank (by omega), position ▸ rowFits_setaddr subframe⟩
  | unblank _ position =>
    have hopen : windowAt (pc + 1) = true := windowAt_iff.mpr (by omega)
    exact ⟨hclk, hlat, by rw [hopen]; rfl, hrow.succ (by omega)⟩

/-! ### The sequencer's step under the invariant (R100) -/

theorem MpInv.linesAt {s : State} (hs : MpInv s) : LinesAt s.seqPc.val s.out where
  clk := hs.clkIdle
  lat := hs.latIdle
  oeN := hs.blankOutside
  row := by
    unfold RowFits
    split_ifs with h
    · exact hs.rowDriven h
    · exact hs.rowBefore (by omega)

/-- LATCH and SETADDR stand outside the display windows, so they find OE_n = 1. -/
theorem MpInv.blankWhereNeeded {s : State} (hs : MpInv s) : BlankWhereNeeded s := by
  intro dt h
  obtain ⟨k, j, hk, hj, hpc⟩ := position_of_needsBlank h
  exact hs.linesAt.blank (by omega)

/-- What a turn of the sequencer does under MP: it is held at RWAIT, or it performs MP's micro-op, which neither faults nor is
refused, and goes on. -/
inductive MpMove (u t : State) : Prop
  | held (position : u.seqPc = 6) (signal : u.renderDone = false) (same : t = u)
  | goes (dt : Dt) (e : Env) (v : State) (signal : u.seqPc = 6 → u.renderDone = true)
      (performed : exec (mpInstr dt u.seqPc.val) (u.setEnv e) = .next v) (running : stopped v = none)
      (moved : t = v.setSeqPc (nextPc u.seqPc))

theorem MpInv.mpMove {u t : State} (hu : MpInv u) (h : seqStep u = .next t) : MpMove u t := by
  have hrun := (seqStep_cases h).1
  by_cases hheld : u.seqPc = 6 ∧ u.renderDone = false
  · rw [seqStep_at_rwait_held hrun hheld.1 hheld.2] at h
    exact .held hheld.1 hheld.2 (Host.Outcome.next.inj h).symm
  · have hsignal : u.seqPc = 6 → u.renderDone = true := fun hpc => by simpa using mt (.intro hpc) hheld
    obtain ⟨v, hv, hstep⟩ := seqStep_performs hrun
    rw [← fetch_snd, fetch_state] at hv
    have hrun' : stopped v = none :=
      exec_keeps_running hv (mpInstr_wellFormed ..) (hu.blankWhereNeeded _) ((stopped_congr rfl rfl rfl).trans hrun)
    rw [if_neg] at hstep
    · exact .goes _ _ v hsignal hv hrun' (Host.Outcome.next.inj (h.symm.trans hstep))
    · rintro (hfault | ⟨hi, hd⟩)
      · exact stopped_ne_none_of_fault hfault hrun'
      · exact Bool.false_ne_true (hd.symm.trans (hsignal (Fin.ext (mpInstr_eq_rwait.mp hi))))

theorem SeqMoves.seqStep_eq {u t : State} (h : SeqMoves u t) : seqStep u = .next t := by
  obtain ⟨hrun, v, hv, rfl⟩ := h.performs
  rw [seqStep_eq_perform hrun, performAndAdvance_of_exec hv]

theorem MpMove.mpInv {u t : State} (hu : MpInv u) (h : MpMove u t) : MpInv t := by
  cases h with
  | held _ _ same => exact same ▸ hu
  | goes dt e v signal performed running moved =>
    have keep := exec_untouched performed
    have hlines := (LinesAt.exec u.seqPc.isLt (s := u.setEnv e) hu.linesAt performed).nextPc
    have hconsumed : v.renderDone = false := by
      refine exec_renderDone performed ?_
      by_cases hpc : u.seqPc = 6
      · exact .inl (mpInstr_eq_rwait.mpr (congrArg Fin.val hpc))
      · exact .inr (by simpa using mt hu.doneAtWait hpc)
    subst moved
    exact {
      turnsInMp := by rw [State.setSeqPc_turns, keep.turns]; exact hu.turnsInMp
      noFault := (stopped_eq_none.mp running).1
      fbCanonical := by rw [State.setSeqPc_fb, keep.fb]; exact hu.fbCanonical
      doneAtWait := fun hdone => absurd (hconsumed.symm.trans hdone) Bool.false_ne_true
      clkIdle := hlines.clk
      latIdle := hlines.lat
      blankOutside := hlines.oeN
      rowDriven := fun h => (if_pos h).mp hlines.row
      rowBefore := fun h => (if_neg (Nat.not_le.mpr h)).mp hlines.row }

/-! ### The other movers under the invariant -/

/-- The invariant does not depend on the outside agents' data, as long as no direct issue is to come. -/
theorem MpInv.with_outside {s : State} (hs : MpInv s) (env : Env) (host : List HostReq) (n : Nat) {ts : List Turn}
    (hts : ts.all Turn.inMp = true) : MpInv { s with env := env, host := host, hostDrawn := n, turns := ts } :=
  { hs with turnsInMp := hts }

theorem MpInv.turns_cons {s : State} (hs : MpInv s) {turn : Turn} {ts : List Turn} (hts : s.turns = turn :: ts) :
    turn.inMp = true ∧ ts.all Turn.inMp = true := by
  have hall := hs.turnsInMp
  rwa [hts, List.all_cons, Bool.and_eq_true] at hall

theorem MpInv.drawHost_setTurns {s : State} (hs : MpInv s) {ts : List Turn} (hts : ts.all Turn.inMp = true) :
    MpInv (drawHost (s.setTurns ts)) := by
  rw [drawHost_eq]
  exact hs.with_outside s.env _ _ hts

/-- The host writes the frame buffer inside it, and signals RENDER_DONE at RWAIT. -/
theorem MpInv.hostMoves {u t : State} (hu : MpInv u) (h : HostMoves u t) : MpInv t := by
  have hfb : Memory.wf t.fb := by
    obtain ht | ⟨-, ch, r, c, v, qs, -, ⟨hch, hr, hc⟩, -, ht⟩ := h.fb_eq_or_written
    · exact ht ▸ hu.fbCanonical
    · rw [ht]
      exact Memory.write_wf hu.fbCanonical (fbIndex_lt hch hr hc) v
  have hdone : t.renderDone = true → u.seqPc = 6 := by
    cases hopen : windowOpen u with
    | true => exact fun _ => (windowOpen_iff.mp hopen).2.1
    | false => exact fun hd => hu.doneAtWait ((h.renderDone_eq_of_shut hopen).symm.trans hd)
  rw [h.eq_with]
  exact { hu with fbCanonical := hfb, doneAtWait := hdone }

/-- RESET blanks the panel, empties the frame buffer and goes to position 0. -/
theorem mpInv_applyReset {s : State} (hs : s.turns.all Turn.inMp = true) : MpInv s.applyReset where
  turnsInMp := hs
  noFault := rfl
  fbCanonical := Memory.wf_nil
  doneAtWait := nofun
  clkIdle := rfl
  latIdle := rfl
  blankOutside := rfl
  rowDriven := nofun
  rowBefore := fun _ => .inl rfl

/-- Settles O36: the sequencer's step takes the lines from position to position, and of the other moves under MP only RESET
touches them. -/
theorem microprogramKeepsItsInvariant : Obligations.MicroprogramKeepsItsInvariant := by
  intro s t hs h
  have hdraw : MpInv (drawHost s) := hs.drawHost_setTurns hs.turnsInMp
  rcases step_cases h with ⟨ts, hts, rfl⟩ | ⟨w, ts, hts, -⟩ | ⟨ts, hts, hh⟩ | ⟨ts, hts, hq⟩ | ⟨-, ⟨-, hh⟩ | ⟨-, hq⟩⟩
  · exact mpInv_applyReset (hs.turns_cons hts).2
  · exact absurd (hs.turns_cons hts).1 Bool.false_ne_true
  · exact (hs.drawHost_setTurns (hs.turns_cons hts).2).hostMoves hh
  · have hu : MpInv (s.setTurns ts) := hs.with_outside s.env s.host s.hostDrawn (hs.turns_cons hts).2
    exact (hu.mpMove hq.seqStep_eq).mpInv hu
  · exact hdraw.hostMoves hh
  · exact (hdraw.mpMove hq.seqStep_eq).mpInv hdraw

end Sys2Proof.Machine
end

section
/-! Counting the words of MP: the ticks of a run, and the display windows of a scan pass (43_scanout.md R171, R184 to R190). -/

namespace Sys2Proof.Machine

/-! ### How many words MP has emitted at each position (R171, R190) -/

theorem wordsBefore_succ (pc : Nat) : wordsBefore (pc + 1) = wordsBefore pc + wordsOf (mpInstr 0 pc) := by
  simp [wordsBefore, List.range_succ]

/-- The time advance does not change how many words MP's micro-op emits. -/
theorem wordsOf_mpInstr (dt : Dt) (pc : Nat) : wordsOf (mpInstr dt pc) = wordsOf (mpInstr 0 pc) := by
  by_cases h : pc = 0
  · subst h
    rfl
  · rw [mpInstr_of_pos h dt 0]

/-- How many words a subframe has emitted before its position `j`. -/
def subframeWordsBefore (j : Nat) : Nat :=
  if j ≤ 64 then 3 * j else if j = 65 then 193 else if j = 66 then 195 else 196

/-- A subframe emits 197 words. -/
theorem wordsBefore_eq {pc : Nat} (h7 : 7 ≤ pc) (hpc : pc ≤ 3336) :
    wordsBefore pc = 197 * ((pc - 7) / 68) + subframeWordsBefore ((pc - 7) % 68) := by
  induction pc, h7 using Nat.le_induction with
  | base => rfl
  | succ pc h7 ih =>
    rw [wordsBefore_succ, ih (by omega)]
    have hat := mpInstr_at 0 (pc := pc) (by omega)
    generalize mpInstr 0 pc = i at hat
    unfold subframeWordsBefore
    cases hat with
    | head position => omega
    | shift | blank | latch | setaddr | unblank =>
      simp only [wordsOf]
      split_ifs <;> omega

theorem wordsBefore_tick : wordsBefore 3336 = 9649 := wordsBefore_eq (by decide) le_rfl

/-! ### The trace along a run (R108, R190) -/

/-- MP's micro-op emits its fixed number of words when it finds OE_n as it needs it. -/
theorem length_emitted_mpInstr {dt : Dt} {pc : Nat} {s : State} (hs : NeedsBlank (mpInstr dt pc) → s.out.oeN = true) :
    (emitted s (mpInstr dt pc)).length = wordsOf (mpInstr 0 pc) :=
  (length_emitted (mpInstr_wellFormed ..) hs).trans (wordsOf_mpInstr ..)

/-- From `u` to `t` the trace grows by the words of the positions passed, a whole tick's where the tick ends. -/
def WordsAccounted (u t : State) : Prop :=
  t.trace.length + wordsBefore u.seqPc.val =
    u.trace.length + wordsBefore t.seqPc.val + if endsTick u t = true then 9649 else 0

theorem endsTick_iff {u t : State} : endsTick u t = true ↔ u.seqPc.val = 3335 ∧ t.seqPc.val = 0 := by
  rw [endsTick, Bool.and_eq_true, decide_eq_true_iff, decide_eq_true_iff, Fin.ext_iff, Fin.ext_iff]
  rfl

theorem wordsAccounted_of_idle {u t : State} (hpc : t.seqPc = u.seqPc) (same : SameLines u t) : WordsAccounted u t := by
  have hends : ¬endsTick u t = true := by rw [endsTick_iff, hpc]; omega
  rw [WordsAccounted, if_neg hends, hpc, State.trace, State.trace, same.traceRev, Nat.add_zero]

theorem HostMoves.wordsAccounted {u t : State} (h : HostMoves u t) : WordsAccounted u t :=
  wordsAccounted_of_idle (by rw [h.eq_with]) h.sameLines

theorem MpMove.wordsAccounted {u t : State} (hu : MpInv u) (h : MpMove u t) : WordsAccounted u t := by
  cases h with
  | held _ _ same => exact wordsAccounted_of_idle (by rw [same]) (by rw [same]; exact ⟨rfl, rfl⟩)
  | goes dt e v signal performed running moved =>
    have hlength : v.trace.length = u.trace.length + wordsOf (mpInstr 0 u.seqPc.val) := by
      rw [exec_trace performed, List.length_append, length_emitted_mpInstr (s := u.setEnv e) (hu.blankWhereNeeded dt)]
      rfl
    have hsucc := wordsBefore_succ u.seqPc.val
    have htrace : t.trace = v.trace := by rw [moved]; rfl
    have hpc : t.seqPc = nextPc u.seqPc := by rw [moved]; rfl
    have hval := nextPc_val u.seqPc
    rw [WordsAccounted, htrace, hlength, hpc, hval]
    by_cases hlast : u.seqPc.val = 3335
    · have hends : endsTick u t = true := endsTick_iff.mpr ⟨hlast, by rw [hpc, hval, if_pos hlast]⟩
      rw [hlast, wordsBefore_tick] at hsucc
      rw [if_pos hlast, if_pos hends, hlast]
      change _ = _ + 0 + 9649
      omega
    · have hends : ¬endsTick u t = true := fun h => hlast (endsTick_iff.mp h).1
      rw [if_neg hlast, if_neg hends]
      omega

/-- Settles O59: along a run every step keeps the invariant of MP and accounts for its words. -/
theorem traceCountsTheTicks : Obligations.TraceCountsTheTicks := by
  intro r c n hr h0
  suffices h : MpInv (r n) ∧ (r n).trace.length = 9649 * ticksEnded r n + wordsBefore (r n).seqPc.val from h.2
  induction n with
  | zero => rw [h0]; exact ⟨mpInv_applyReset rfl, rfl⟩
  | succ n ih =>
    obtain ⟨hinv, hcount⟩ := ih
    obtain ⟨env, host, k, hmoves⟩ := hr.moves n
    have hu := hinv.with_outside env host k (ts := []) rfl
    have hnext : MpInv (r (n + 1)) ∧ WordsAccounted (r n) (r (n + 1)) := by
      obtain hseq | hhost := hmoves
      · have hmove := hu.mpMove hseq
        have hwords := hmove.wordsAccounted hu
        exact ⟨hmove.mpInv hu, hwords⟩
      · have hwords := hhost.wordsAccounted
        exact ⟨hu.hostMoves hhost, hwords⟩
    obtain ⟨hinv', hwords⟩ := hnext
    refine ⟨hinv', ?_⟩
    unfold WordsAccounted at hwords
    rw [ticksEnded]
    split_ifs at hwords ⊢ <;> omega

/-! ### The display windows (R186) -/

section

variable {o : Bus} (n : Nat) (ws : List Bus)

theorem windowLengths_shown (ho : o.oeN = false) : windowLengths n (o :: ws) = windowLengths (n + 1) ws := by
  simp [windowLengths, ho]

theorem windowLengths_blank (ho : o.oeN = true) : windowLengths 0 (o :: ws) = windowLengths 0 ws := by
  simp [windowLengths, ho]

theorem windowLengths_shut (ho : o.oeN = true) : windowLengths (n + 1) (o :: ws) = (n + 1) :: windowLengths 0 ws := by
  simp [windowLengths, ho]

end

/-- How many words the open window has, if one is open, when the sequencer stands at `pc`. -/
def windowSoFar (pc : Nat) : Nat := if windowAt pc then 3 * ((pc - 7) % 68) + 1 else 0

/-- How many windows of the tick are shut when the sequencer stands at `pc`. -/
def windowsShut (pc : Nat) : Nat := (pc - 72) / 68

/-- The windows that a scan pass has shown when the sequencer stands at `pc`, with the words `ws` still to come. -/
def windowsFrom (pc : Nat) (ws : List Bus) : List Nat :=
  List.replicate (windowsShut pc) 193 ++ windowLengths (windowSoFar pc) ws

theorem windowsFrom_eq_of_succ {pc : Nat} {ws ws' : List Bus} (hshut : windowsShut (pc + 1) = windowsShut pc)
    (h : windowLengths (windowSoFar pc) ws = windowLengths (windowSoFar (pc + 1)) ws') :
    windowsFrom pc ws = windowsFrom (pc + 1) ws' := by
  rw [windowsFrom, windowsFrom, hshut, h]

theorem windowSoFar_of_shut {pc : Nat} (h : ¬(75 ≤ pc ∧ (pc - 7) % 68 ≤ 64)) : windowSoFar pc = 0 :=
  if_neg (mt windowAt_iff.mp h)

theorem windowSoFar_of_open {pc : Nat} (h : 75 ≤ pc ∧ (pc - 7) % 68 ≤ 64) : windowSoFar pc = 3 * ((pc - 7) % 68) + 1 :=
  if_pos (windowAt_iff.mpr h)

/-- The words of MP's micro-op take the windows to the next position's. -/
theorem windowsFrom_emitted {dt : Dt} {pc : Nat} {s : State} (h7 : 7 ≤ pc) (hpc : pc < 3336) (hs : LinesAt pc s.out)
    (ws : List Bus) : windowsFrom pc (emitted s (mpInstr dt pc) ++ ws) = windowsFrom (pc + 1) ws := by
  have hat := mpInstr_at dt hpc
  have hblank := hs.blank
  have hoe := hs.oeN
  generalize mpInstr dt pc = i at hat
  cases hat with
  | head position => omega
  | @shift k j ch c p col subframe column position chan =>
    obtain ⟨-, -, hoe', -⟩ := shiftOut_controls s c p col
    rw [emitted_shift chan]
    refine windowsFrom_eq_of_succ (by unfold windowsShut; omega) ?_
    by_cases hk : k = 0
    · have ho : (shiftOut s c p col).oeN = true := hoe'.trans (hblank (by omega))
      rw [windowSoFar_of_shut (by omega), windowSoFar_of_shut (by omega)]
      simp [clockWords, windowLengths, ho]
    · have hopen : 75 ≤ pc ∧ (pc - 7) % 68 ≤ 64 := by omega
      have ho : (shiftOut s c p col).oeN = false := by rw [hoe', hoe, windowAt_iff.mpr hopen]; rfl
      have hthree : windowSoFar (pc + 1) = windowSoFar pc + 3 := by
        rw [windowSoFar_of_open hopen, windowSoFar_of_open (by omega)]
        omega
      rw [hthree]
      simp [clockWords, windowLengths, ho]
  | @blank k subframe position =>
    by_cases hk : k = 0
    · refine windowsFrom_eq_of_succ (by unfold windowsShut; omega) ?_
      rw [windowSoFar_of_shut (by omega), windowSoFar_of_shut (by omega)]
      exact windowLengths_blank _ rfl
    · have hlength : windowSoFar pc = 192 + 1 := by
        rw [windowSoFar_of_open (by omega)]
        omega
      have hcount : windowsShut (pc + 1) = windowsShut pc + 1 := by unfold windowsShut; omega
      rw [windowsFrom, windowsFrom, hlength, windowSoFar_of_shut (by omega), hcount, List.replicate_succ', List.append_assoc]
      exact congrArg _ (windowLengths_shut _ _ rfl)
  | latch _ position =>
    refine windowsFrom_eq_of_succ (by unfold windowsShut; omega) ?_
    rw [windowSoFar_of_shut (by omega), windowSoFar_of_shut (by omega), emitted_latch (hblank (by omega))]
    exact (windowLengths_blank _ (hblank (by omega))).trans (windowLengths_blank _ (hblank (by omega)))
  | setaddr _ position =>
    refine windowsFrom_eq_of_succ (by unfold windowsShut; omega) ?_
    rw [windowSoFar_of_shut (by omega), windowSoFar_of_shut (by omega), emitted_setaddr (hblank (by omega))]
    exact windowLengths_blank _ (hblank (by omega))
  | unblank _ position =>
    refine windowsFrom_eq_of_succ (by unfold windowsShut; omega) ?_
    have hone : windowSoFar (pc + 1) = 0 + 1 := by
      rw [windowSoFar_of_open (by omega)]
      omega
    rw [windowSoFar_of_shut (by omega), hone]
    exact windowLengths_shown _ _ rfl

/-! ### The scan pass (R184, R186, R190) -/

/-- A scan pass leaves the classifier, the scores, the host's requests and the frame buffer alone. -/
structure ScanKeeps (s t : State) : Prop where
  classifier : SameClassifier s t
  scores : SameScores s t
  host : t.host = s.host
  fb : t.fb = s.fb

theorem ScanKeeps.refl (s : State) : ScanKeeps s s := ⟨⟨rfl, rfl, rfl⟩, rfl, rfl, rfl⟩

theorem scanKeeps_setEnv (s : State) (e : Env) : ScanKeeps s (s.setEnv e) := ⟨⟨rfl, rfl, rfl⟩, rfl, rfl, rfl⟩

theorem scanKeeps_setTurns (s : State) (ts : List Turn) : ScanKeeps s (s.setTurns ts) := ⟨⟨rfl, rfl, rfl⟩, rfl, rfl, rfl⟩

theorem ScanKeeps.trans {s t u : State} (h : ScanKeeps s t) (h' : ScanKeeps t u) : ScanKeeps s u := by
  obtain ⟨⟨hbtn, hnow, hev⟩, hscores, hhost, hfb⟩ := h
  obtain ⟨⟨hbtn', hnow', hev'⟩, hscores', hhost', hfb'⟩ := h'
  exact ⟨⟨hbtn'.trans hbtn, hnow'.trans hnow, hev'.trans hev⟩, hscores'.trans hscores, hhost'.trans hhost, hfb'.trans hfb⟩

/-- From position 7 on, MP's micro-ops are SHIFT, BLANK, LATCH, SETADDR and UNBLANK (R101). -/
theorem exec_mpInstr_scanKeeps {dt : Dt} {pc : Nat} {s t : State} (h : exec (mpInstr dt pc) s = .next t) (h7 : 7 ≤ pc) :
    ScanKeeps s t := by
  obtain ⟨hadv, hsmp, heval⟩ := mpInstr_after_eval dt (pc := pc) (by omega)
  exact ⟨⟨exec_btn h hadv hsmp heval, exec_nowMs h hadv, exec_ev h heval⟩, exec_mpInstr_score h (by omega) (by omega),
    (exec_untouched h).host, (exec_untouched h).fb⟩

/-- One step of the sequencer in a scan pass, from `u` to `t`, which emits `ws`. -/
structure ScanMove (u t : State) (ws : List Bus) : Prop where
  inv : MpInv t
  running : stopped t = none
  position : t.seqPc = nextPc u.seqPc
  turns : t.turns = u.turns
  keeps : ScanKeeps u t
  trace : t.trace = u.trace ++ ws
  words : wordsBefore (u.seqPc.val + 1) = wordsBefore u.seqPc.val + ws.length
  windows : ∀ rest, windowsFrom u.seqPc.val (ws ++ rest) = windowsFrom (u.seqPc.val + 1) rest

theorem MpInv.scanMove {u : State} (hu : MpInv u) (hrun : stopped u = none) (h7 : 7 ≤ u.seqPc.val) :
    ∃ t ws, seqStep u = .next t ∧ ScanMove u t ws := by
  obtain ⟨t, ht⟩ : ∃ t, seqStep u = .next t := by
    obtain ⟨v, -, hv⟩ := seqStep_performs hrun
    exact ⟨_, hv⟩
  have hmove := hu.mpMove ht
  have hinv := hmove.mpInv hu
  cases hmove with
  | held position => exact absurd h7 (by rw [position]; decide)
  | goes dt e v signal performed running moved =>
    have hwords := length_emitted_mpInstr (s := u.setEnv e) (hu.blankWhereNeeded dt)
    have hwindows := windowsFrom_emitted (s := u.setEnv e) h7 u.seqPc.isLt hu.linesAt (dt := dt)
    have htrace := exec_trace performed
    have hkeeps : ScanKeeps u v := (scanKeeps_setEnv u e).trans (exec_mpInstr_scanKeeps performed h7)
    refine ⟨t, _, ht, hinv, ?_, ?_, ?_, hkeeps.trans ?_, ?_, ?_, hwindows⟩
    · rw [moved]; exact (stopped_congr rfl rfl rfl).trans running
    · rw [moved]; rfl
    · rw [moved]; exact (exec_untouched performed).turns
    · rw [moved]; exact ⟨⟨rfl, rfl, rfl⟩, rfl, rfl, rfl⟩
    · rw [moved]; exact htrace
    · rw [wordsBefore_succ, hwords]

theorem runSteps_succ {n : Nat} {s t u : State} (h : runSteps n s = .next t) (hstep : step t = .next u) :
    runSteps (n + 1) s = .next u := by
  induction n generalizing s with
  | zero =>
    cases h
    simp only [runSteps, hstep]
  | succ n ih =>
    unfold runSteps at h ⊢
    cases hs : step s with
    | next s' => rw [hs] at h; exact ih h
    | fault r => rw [hs] at h; cases h
    | refused r => rw [hs] at h; cases h

/-- What `n` steps of the sequencer from position 7 on have done: the state `t`, and the words `ws`. -/
structure Scanned (s : State) (ts : List Turn) (n : Nat) (t : State) (ws : List Bus) : Prop where
  run : runSteps n s = .next t
  inv : MpInv t
  running : stopped t = none
  position : t.seqPc.val = if n = 3329 then 0 else 7 + n
  turns : t.turns = List.replicate (3329 - n) .sequencer ++ ts
  keeps : ScanKeeps s t
  trace : t.trace = s.trace ++ ws
  words : ws.length = wordsBefore (7 + n)
  windows : ∀ rest, windowLengths 0 (ws ++ rest) = windowsFrom (7 + n) rest

theorem scanned_zero {s : State} {ts : List Turn} (hs : MpInv s) (hrun : stopped s = none) (hpc : s.seqPc = 7)
    (hturns : s.turns = List.replicate 3329 .sequencer ++ ts) : Scanned s ts 0 s [] where
  run := rfl
  inv := hs
  running := hrun
  position := congrArg Fin.val hpc
  turns := hturns
  keeps := .refl s
  trace := (List.append_nil _).symm
  words := rfl
  windows := fun _ => rfl

theorem Scanned.succ {s t : State} {ts : List Turn} {n : Nat} {ws : List Bus} (h : Scanned s ts n t ws) (hn : n < 3329) :
    ∃ t' ws', Scanned s ts (n + 1) t' ws' := by
  have hpc : t.seqPc.val = 7 + n := by rw [h.position, if_neg (by omega)]
  have hturns : t.turns = .sequencer :: (List.replicate (3329 - (n + 1)) .sequencer ++ ts) := by
    rw [h.turns, show 3329 - n = 3329 - (n + 1) + 1 by omega]
    rfl
  have hu := h.inv.with_outside t.env t.host t.hostDrawn (h.inv.turns_cons hturns).2
  obtain ⟨t', ws', hstep, hmove⟩ := hu.scanMove ((stopped_congr rfl rfl rfl).trans h.running) (by rw [hpc]; omega)
  obtain ⟨hinv, hrun, hpos, hts, hkeeps, htrace, hwords, hwindows⟩ := hmove
  rw [hpc] at hwords hwindows
  refine ⟨t', ws ++ ws', runSteps_succ h.run ((step_of_sequencerMoves (.inl ⟨_, hturns, rfl⟩)).trans hstep), hinv, hrun, ?_,
    hts, ?_, ?_, ?_, fun rest => ?_⟩
  · rw [hpos, nextPc_val, hpc]
    split_ifs <;> omega
  · exact h.keeps.trans ((scanKeeps_setTurns t _).trans hkeeps)
  · rw [← List.append_assoc, ← h.trace]
    exact htrace
  · rw [List.length_append, h.words]
    exact hwords.symm
  · rw [List.append_assoc, h.windows]
    exact hwindows rest

/-- Settles O39: 3329 steps from position 7, each of them counted by `Scanned`. -/
theorem scanPassHasEqualWindows : Obligations.ScanPassHasEqualWindows := by
  intro s ts hs hrun hpc hturns
  have hall : ∀ n ≤ 3329, ∃ t ws, Scanned s ts n t ws := by
    intro n hn
    induction n with
    | zero => exact ⟨s, [], scanned_zero hs hrun hpc hturns⟩
    | succ n ih =>
      obtain ⟨t, ws, h⟩ := ih (by omega)
      exact h.succ (by omega)
  obtain ⟨t, ws, h⟩ := hall 3329 le_rfl
  refine ⟨t, ws, h.run, Fin.ext h.position, h.trace, h.words.trans wordsBefore_tick, ?_, h.turns, h.keeps.host,
    h.keeps.classifier, h.keeps.scores, fun a => by rw [h.keeps.fb]⟩
  have hwindows := h.windows []
  rw [List.append_nil] at hwindows
  exact hwindows

end Sys2Proof.Machine
end

section
/-! The panel observer after a subframe (43_scanout.md R187, R188). -/

namespace Sys2Proof.Machine

/-! ### The observer over words (R187) -/

@[simp] theorem PerLine.get_of {α : Type} (f : Line → α) (l : Line) : (PerLine.of f).get l = f l := by cases l <;> rfl

theorem Panel.watch_append (w' : Bus) (ws ws' : List Bus) (p : Panel) :
    Panel.watch w' (ws ++ ws') p = Panel.watch (ws.getLastD w') ws' (Panel.watch w' ws p) := by
  induction ws generalizing w' p with
  | nil => rfl
  | cons w ws ih =>
    rw [List.getLastD_cons]
    exact ih w (Panel.see w' w p)

/-- A word without a rising strobe changes nothing. -/
theorem Panel.see_idle {w : Bus} (hclk : w.clk = false) (hlat : w.lat = false) (w' : Bus) (p : Panel) :
    Panel.see w' w p = p := by
  simp [Panel.see, hclk, hlat]

theorem Panel.watch_idle {ws : List Bus} (h : ∀ w ∈ ws, w.clk = false ∧ w.lat = false) (w' : Bus) (p : Panel) :
    Panel.watch w' ws p = p := by
  induction ws generalizing w' with
  | nil => rfl
  | cons w ws ih =>
    obtain ⟨⟨hclk, hlat⟩, hrest⟩ := List.forall_mem_cons.mp h
    rw [Panel.watch, Panel.see_idle hclk hlat]
    exact ih hrest w

/-- Every shift register holds 64 bits. -/
def Panel.Full (p : Panel) : Prop := ∀ l, (p.sr.get l).length = 64

theorem Panel.Full.see {p : Panel} (hp : p.Full) (w' w : Bus) : (Panel.see w' w p).Full := by
  intro l
  unfold Panel.see
  split
  · simp [hp l, Config.cols]
  · exact hp l

theorem Panel.Full.watch {p : Panel} (hp : p.Full) (w' : Bus) (ws : List Bus) : (Panel.watch w' ws p).Full := by
  induction ws generalizing w' p with
  | nil => exact hp
  | cons w ws ih => exact ih (hp.see w' w) w

theorem Panel.full_reset : Panel.reset.Full := fun l => by simp [Panel.reset, Config.cols]

theorem State.panel_full (s : State) : s.panel.Full := Panel.full_reset.watch _ _

/-- SHIFT's three words shift in what the lines carry, and latch nothing. -/
theorem Panel.watch_clockWords {w' o : Bus} (hclk : o.clk = false) (hlat : o.lat = false) (p : Panel) :
    Panel.watch w' (clockWords o) p = { p with sr := PerLine.of fun l => o.line l :: (p.sr.get l).take 63 } := by
  have hline lat l : Bus.line { o with clk := true, lat := lat } l = o.line l := by cases l <;> rfl
  simp [clockWords, Panel.watch, Panel.see, hclk, hlat, hline, Config.cols]

/-- LATCH's two words copy the shift registers into the latches, and shift nothing. -/
theorem Panel.watch_strobeWords {w' o : Bus} (hclk : o.clk = false) (hlat : w'.lat = false) (p : Panel) :
    Panel.watch w' (strobeWords o) p = { p with lt := p.sr } := by
  simp [strobeWords, Panel.watch, Panel.see, hclk, hlat]

/-! ### The observer after a micro-op -/

theorem TraceInv.last_word {s : State} (hs : TraceInv s) : s.trace.getLastD Bus.reset = s.out := by
  simpa [State.trace, List.getLastD_eq_getLast?, List.head?_append] using hs.endsInOut

/-- The observer watches a micro-op's words from the last word before them. -/
theorem exec_panel {i : Instr} {s t : State} (hs : TraceInv s) (h : exec i s = .next t) :
    t.panel = Panel.watch s.out (emitted s i) s.panel := by
  rw [State.panel, State.panel, exec_trace h, Panel.watch_append, hs.last_word]

section

variable {s t : State} (hs : TraceInv s)
include hs

theorem exec_shift_panel {ch : BitVec 2} {c : Chan} {p : BitVec 4} {col : BitVec 6} (hc : chanOf ch = some c)
    (h : exec (.shift ch p col) s = .next t) :
    t.panel = { s.panel with
      sr := PerLine.of fun l => (shiftOut s c p col).line l :: (s.panel.sr.get l).take 63 } := by
  obtain ⟨hclk, hlat, -, -⟩ := shiftOut_controls s c p col
  rw [exec_panel hs h, emitted_shift hc]
  exact Panel.watch_clockWords (hclk.trans hs.clkIdle) (hlat.trans hs.latIdle) s.panel

theorem exec_latch_panel (hoe : s.out.oeN = true) (h : exec .latch s = .next t) :
    t.panel = { s.panel with lt := s.panel.sr } := by
  rw [exec_panel hs h, emitted_latch hoe]
  exact Panel.watch_strobeWords hs.clkIdle hs.latIdle s.panel

/-- BLANK, SETADDR and UNBLANK move no strobe. -/
theorem exec_panel_of_no_strobe {i : Instr} (hi : i = .blank ∨ (∃ p, i = .setaddr p) ∨ i = .unblank) (h : exec i s = .next t) :
    t.panel = s.panel := by
  have hidle : ∀ w ∈ emitted s i, w.clk = false ∧ w.lat = false := by
    obtain rfl | ⟨p, rfl⟩ | rfl := hi
    · exact List.forall_mem_singleton.mpr ⟨hs.clkIdle, hs.latIdle⟩
    · cases hoe : s.out.oeN with
      | false => simp [emitted, hoe]
      | true => rw [emitted_setaddr hoe]; exact List.forall_mem_singleton.mpr ⟨hs.clkIdle, hs.latIdle⟩
    · exact List.forall_mem_singleton.mpr ⟨hs.clkIdle, hs.latIdle⟩
  rw [exec_panel hs h, Panel.watch_idle hidle]

end

/-! ### Running micro-ops one after another -/

theorem execAll_cons {i : Instr} {is : List Instr} {s t : State} (h : exec i s = .next t) (hrun : stopped t = none) :
    execAll (i :: is) s = execAll is t := by
  have hgo : ¬halted t = true := fun hh => halted_iff.mp hh hrun
  simp only [execAll, h, if_neg hgo]

theorem execAll_append {is js : List Instr} {s t : State} (h : execAll is s = .next t) (hrun : stopped t = none) :
    execAll (is ++ js) s = execAll js t := by
  induction is generalizing s with
  | nil => cases h; rfl
  | cons i is ih =>
    obtain ⟨u, hu⟩ := exec_answers i s
    by_cases hstop : stopped u = none
    · rw [execAll_cons hu hstop] at h
      rw [List.cons_append, execAll_cons hu hstop, ih h]
    · simp only [execAll, hu, if_pos (halted_iff.mpr hstop)] at h
      cases h
      exact absurd hrun hstop

/-- A well-formed micro-op that finds OE_n as it needs it keeps the protocol and does not stop the machine. -/
theorem exec_goes_on {i : Instr} {s : State} (hwf : wellFormed i = true) (hblank : NeedsBlank i → s.out.oeN = true)
    (hs : TraceInv s) (hrun : stopped s = none) : ∃ t, exec i s = .next t ∧ TraceInv t ∧ stopped t = none := by
  obtain ⟨t, ht⟩ := exec_answers i s
  exact ⟨t, ht, hs.exec ht, exec_keeps_running ht hwf hblank hrun⟩

/-! ### The row of a subframe (R182, R188) -/

/-- A SHIFT of a row changes nothing that a later SHIFT of the row drives. -/
theorem shiftOut_line_after_shift {ch : BitVec 2} {c : Chan} {p : BitVec 4} {col : BitVec 6} {s t : State}
    (hc : chanOf ch = some c) (h : exec (.shift ch p col) s = .next t) (col' : BitVec 6) (l : Line) :
    (shiftOut t c p col').line l = (shiftOut s c p col').line l := by
  have hkeep := exec_untouched h
  have hout : t.out.line l = (shiftOut s c p col).line l := by
    rw [(exec_emits h).2, emitted_shift hc]
    cases l <;> rfl
  have hread r k : t.fbRead (chanCode c) r k = s.fbRead (chanCode c) r k := by rw [State.fbRead, State.fbRead, hkeep.fb]
  rw [shiftOut_line, shiftOut_line, hread, hread]
  split_ifs with hu hl
  · rfl
  · rfl
  · rw [shiftOut_line, if_neg hu, if_neg hl] at hout
    unfold undrivenLine at *
    rw [hkeep.cfg]
    cases hpol : s.cfg.inactive with
    | zero => rfl
    | hold => simpa [hpol] using hout

/-- The bits that the first `n` SHIFTs of a row put on line `l`, the last one first. -/
def rowBits (s : State) (c : Chan) (p : BitVec 4) (l : Line) (n : Nat) : List Bool :=
  (List.range n).reverse.map fun col => (shiftOut s c p (BitVec.ofNat 6 col)).line l

theorem rowBits_succ (s : State) (c : Chan) (p : BitVec 4) (l : Line) (n : Nat) :
    rowBits s c p l (n + 1) = (shiftOut s c p (BitVec.ofNat 6 n)).line l :: rowBits s c p l n := by
  simp [rowBits, List.range_succ]

/-- The first `n` SHIFTs of a row. -/
def shifts (ch : BitVec 2) (p : BitVec 4) (n : Nat) : List Instr :=
  (List.range n).map fun col => .shift ch p (BitVec.ofNat 6 col)

/-- What the first `n` SHIFTs of a row have done, from `s` to `t`. -/
structure RowShifted (ch : BitVec 2) (c : Chan) (p : BitVec 4) (s : State) (n : Nat) (t : State) : Prop where
  run : execAll (shifts ch p n) s = .next t
  inv : TraceInv t
  running : stopped t = none
  drives : ∀ col l, (shiftOut t c p col).line l = (shiftOut s c p col).line l
  registers : ∀ l, t.panel.sr.get l = rowBits s c p l n ++ (s.panel.sr.get l).take (64 - n)

theorem RowShifted.zero {ch : BitVec 2} {c : Chan} {p : BitVec 4} {s : State} (hs : TraceInv s) (hrun : stopped s = none) :
    RowShifted ch c p s 0 s where
  run := rfl
  inv := hs
  running := hrun
  drives := fun _ _ => rfl
  registers := fun l => by simp [rowBits, ← s.panel_full l]

theorem RowShifted.succ {ch : BitVec 2} {c : Chan} {p : BitVec 4} {s t : State} {n : Nat} (hc : chanOf ch = some c)
    (h : RowShifted ch c p s n t) (hn : n < 64) : ∃ u, RowShifted ch c p s (n + 1) u := by
  have hwf : wellFormed (.shift ch p (BitVec.ofNat 6 n)) = true :=
    bne_iff_ne.mpr (chanOf_isSome.mp (Option.isSome_iff_exists.mpr ⟨c, hc⟩))
  obtain ⟨u, hu, hinv, hrun⟩ := exec_goes_on hwf (by simp [NeedsBlank]) h.inv h.running
  refine ⟨u, ?_, hinv, hrun, fun col l => ?_, fun l => ?_⟩
  · rw [shifts, List.range_succ, List.map_append]
    refine (execAll_append h.run h.running).trans ?_
    exact execAll_cons hu hrun
  · rw [shiftOut_line_after_shift hc hu, h.drives]
  · have hbits : (rowBits s c p l n).length = n := by simp [rowBits]
    rw [exec_shift_panel h.inv hc hu, rowBits_succ]
    simp only [PerLine.get_of, h.drives, h.registers, List.cons_append, List.cons.injEq, true_and]
    rw [List.take_append, List.take_of_length_le (by omega), List.take_take, hbits]
    congr 2
    omega

theorem rowShifted {ch : BitVec 2} {c : Chan} (hc : chanOf ch = some c) (p : BitVec 4) {s : State} (hs : TraceInv s)
    (hrun : stopped s = none) {n : Nat} (hn : n ≤ 64) : ∃ t, RowShifted ch c p s n t := by
  induction n with
  | zero => exact ⟨s, .zero hs hrun⟩
  | succ n ih =>
    obtain ⟨t, h⟩ := ih (by omega)
    exact h.succ hc (by omega)

/-! ### The subframe's close (R182, R188) -/

theorem execAll_close {s : State} (hs : TraceInv s) (hrun : stopped s = none) (p : BitVec 4) :
    ∃ t, execAll [.blank, .latch, .setaddr p, .unblank] s = .next t ∧ t.fault = none ∧ t.panel.lt = s.panel.sr := by
  obtain ⟨s1, h1, hs1, hrun1⟩ := exec_goes_on (i := .blank) rfl (by simp [NeedsBlank]) hs hrun
  have hoe1 : s1.out.oeN = true := exec_oeN_of_blank_or_latch h1 (.inl rfl) (by simp [NeedsBlank])
  obtain ⟨s2, h2, hs2, hrun2⟩ := exec_goes_on (i := .latch) rfl (fun _ => hoe1) hs1 hrun1
  have hoe2 : s2.out.oeN = true := exec_oeN_of_blank_or_latch h2 (.inr rfl) fun _ => hoe1
  obtain ⟨s3, h3, hs3, hrun3⟩ := exec_goes_on (i := .setaddr p) rfl (fun _ => hoe2) hs2 hrun2
  obtain ⟨s4, h4, -, hrun4⟩ := exec_goes_on (i := .unblank) rfl (by simp [NeedsBlank]) hs3 hrun3
  refine ⟨s4, ?_, (stopped_eq_none.mp hrun4).1, ?_⟩
  · rw [execAll_cons h1 hrun1, execAll_cons h2 hrun2, execAll_cons h3 hrun3, execAll_cons h4 hrun4]
    rfl
  · rw [exec_panel_of_no_strobe hs3 (.inr (.inr rfl)) h4, exec_panel_of_no_strobe hs2 (.inr (.inl ⟨p, rfl⟩)) h3,
      exec_latch_panel hs1 hoe1 h2, exec_panel_of_no_strobe hs (.inl rfl) h1]

/-- Position `j` of a row holds column `63 - j` (R188). -/
theorem getElem?_rowBits (s : State) (c : Chan) (p : BitVec 4) (l : Line) {j : Nat} (hj : j < 64) :
    (rowBits s c p l 64)[j]? = some ((shiftOut s c p (BitVec.ofNat 6 (63 - j))).line l) := by
  have hget : (List.range 64).reverse[j]? = some (63 - j) := by
    rw [List.getElem?_reverse (by simpa using hj), List.length_range, List.getElem?_range (by omega)]
  rw [rowBits, List.getElem?_map, hget, Option.map_some]

/-- A line of another channel holds copies of what SHIFT leaves on it. -/
theorem rowBits_other {c : Chan} {l : Line} (hu : l ≠ upperLine c) (hl : l ≠ lowerLine c) (s : State) (p : BitVec 4) (n : Nat) :
    rowBits s c p l n = List.replicate n (undrivenLine s l) := by
  induction n with
  | zero => rfl
  | succ n ih => rw [rowBits_succ, ih, shiftOut_line, if_neg hu, if_neg hl, List.replicate_succ]

/-- Settles O40: the row's 64 SHIFTs fill the shift registers, and the close copies them into the latches. -/
theorem subframeLatchesItsRows : Obligations.SubframeLatchesItsRows := by
  intro ch c p s hc hs hrun
  obtain ⟨t, ht⟩ := rowShifted hc p hs hrun le_rfl
  obtain ⟨u, hu, hfault, hlatch⟩ := execAll_close ht.inv ht.running p
  have hbits l : u.panel.lt.get l = rowBits s c p l 64 := by
    rw [hlatch, ht.registers, Nat.sub_self, List.take_zero, List.append_nil]
  refine ⟨u, (execAll_append ht.run ht.running).trans hu, hfault, fun j hj => ?_, fun l hup hlow => ?_⟩
  · have hcol : (BitVec.ofNat 6 (63 - j)).toNat = 63 - j := by rw [BitVec.toNat_ofNat]; omega
    rw [hbits, hbits, getElem?_rowBits _ _ _ _ hj, getElem?_rowBits _ _ _ _ hj, shiftOut_line, shiftOut_line, if_pos rfl,
      if_neg (lowerLine_ne_upperLine c), if_pos rfl, hcol, chanCode_of_chan hc]
    exact ⟨rfl, rfl⟩
  · exact (hbits l).trans (rowBits_other hup hlow s p 64)

end Sys2Proof.Machine
end

section
/-! What a raised fault and a refused word leave behind (60_exceptions.md R201, R202; 30_encoding.md R88). -/

namespace Sys2Proof.Machine

/-! ### A raised fault (R201) -/

/-- SETADDR's word as a number, the form a direct issue takes. -/
theorem encode_setaddr_ofNat (p : BitVec 4) : encode (.setaddr p) = BitVec.ofNat 16 (0xD000 + 64 * p.toNat) := by
  revert p
  decide

/-- A direct issue that only records a fault is the last step that the sequencer or a direct issue has. -/
theorem issue_raises_and_stops {s : State} {i : Instr} {f : FaultRecord} {w : Nat} (hs : stopped s = none)
    (hd : decode (BitVec.ofNat 16 w) = .ok i) (hraise : exec i s = .next { s with fault := some f }) :
    step (s.withFetchWord 16 w) = .next { s with fault := some f } ∧
      seqStep { s with fault := some f } = .fault f.reason ∧
      ∀ w', step ({ s with fault := some f }.withFetchWord 16 w') = .fault f.reason := by
  have hstop : stopped { s with fault := some f } = some (.fault f.reason) := stopped_of_fault rfl
  exact ⟨(stepRunsTheIssuedMicroOp s w i hs hd).trans hraise, seqStep_of_stopped hstop, (step_of_stopped hstop).2⟩

/-- Settles O48: LATCH and SETADDR with OE_n = 0 each record a fault and nothing else, and a recorded fault is the stop. -/
theorem raisedFaultStopsTheMachine : Obligations.RaisedFaultStopsTheMachine := by
  intro s p hs hoe
  have hlatch : decode (BitVec.ofNat 16 0xC000) = .ok .latch := decode_encode (i := .latch) rfl
  have hsetaddr : decode (BitVec.ofNat 16 (0xD000 + 64 * p.toNat)) = .ok (.setaddr p) :=
    encode_setaddr_ofNat p ▸ decode_encode rfl
  refine ⟨issue_raises_and_stops hs hlatch (execLatch_enabled hoe), issue_raises_and_stops hs hsetaddr ?_⟩
  rw [← encode_setaddr_ofNat]
  exact execSetaddr_enabled hoe p

/-! ### A refused word (R88, R202) -/

/-- The first refusal sets the mark; `State.refuse` leaves a mark already set. -/
theorem State.refuse_of_running {s : State} (hs : stopped s = none) (r : Refusal) :
    s.refuse r = { s with refusal := some r } := by
  obtain ⟨-, hrefusal, -⟩ := stopped_eq_none.mp hs
  rw [State.refuse_eq, hrefusal, Option.getD_none]

theorem issueWord_of_invalid {w : Word} {why : Invalid} {s : State} (hs : stopped s = none) (hd : decode w = .invalid why) :
    issueWord w s = .next (s.refuse .illegalEncoding) := by
  unfold issueWord
  rw [hs, hd]

/-- SHIFT with the reserved channel code (log 18). -/
theorem execShift_reserved (p : BitVec 4) (col : BitVec 6) (s : State) :
    execShift 3#2 p col s = .next (s.refuse .illegalEncoding) := rfl

/-- Settles O49: an Invalid word and the reserved channel code are both answered by `State.refuse`, which sets the mark alone. -/
theorem illegalWordsAreRefused : Obligations.IllegalWordsAreRefused := by
  intro s hs
  rw [← State.refuse_of_running hs]
  refine ⟨fun w why hd => ?_, fun p col => execShift_reserved p col s⟩
  exact (step_withFetchWord s 16 w).trans (issueWord_of_invalid hs hd)

end Sys2Proof.Machine
end

section
/-! An FBWrite that comes while the sequencer stands outside the render window (70_reset_and_hazards.md R228). -/

namespace Sys2Proof.Machine

/-- The sequencer's turn leaves the host's requests alone. -/
theorem SeqMoves.host_eq {u t : State} (h : SeqMoves u t) : t.host = u.host := by
  have hfetch : (fetch u).2.host = u.host := by rw [fetch_state]; rfl
  obtain ⟨-, v, hv, rfl⟩ := h.performs
  rw [advancePc_eq]
  exact (exec_untouched hv).host.trans hfetch

/-- Settles O42: the window is shut, so the request waits, and the sequencer's step touches neither it nor the frame buffer. -/
theorem earlyFbWriteWaitsForTheWindow : Obligations.EarlyFbWriteWaitsForTheWindow := by
  intro s ch r c v qs hturns hq hch hr hc hrun hpc
  have hmoves : HostMovesFrom s s := .inr ⟨hturns, (drawHost_cons hq).symm⟩
  obtain ⟨-, hwaits, -⟩ := fbWriteFollowsItsRule s s ch r c v qs hmoves hq
  obtain ⟨hfree, -⟩ := hwaits hch hr hc (.inr (.inl hpc))
  have hstep : step s = seqStep s := hfree hturns
  obtain ⟨t, ht⟩ := onlyFaultsAndRefusalsHalt s hrun
  have hseq : SeqMoves s t := seqStep_cases (hstep.symm.trans ht)
  exact ⟨hstep, t, ht, hseq.host_eq, hseq.fb_eq⟩

end Sys2Proof.Machine
end

section
/-! The state after reset, and the first tick from it (70_reset_and_hazards.md R220, R223). -/

namespace Sys2Proof.Machine

/-! ### The values and the invariants after reset (R220) -/

/-- A valid configuration boots to a state with no mark. -/
theorem State.boot_refused {c : Config} (hc : configValid c = true) : (State.boot c).refused = false := by
  rw [State.refused, State.boot_refusal, if_pos hc]
  rfl

/-- Both channel records have their reset value. -/
theorem State.boot_btn (c : Config) (b : Button) : (State.boot c).btn.get b = Channel.reset := by cases b <;> rfl

/-- Both scores are 0. -/
theorem State.boot_score (c : Config) (b : Button) : (State.boot c).score.get b = 0 := by cases b <;> rfl

/-- A frame buffer that lists no cell is all 0 (20_memory.md R61). -/
theorem State.fbRead_of_nil {s : State} (h : s.fb = []) (ch r c : Nat) : s.fbRead ch r c = false := by
  simp [State.fbRead, h]

/-- Settles O52: each register has its value in `State.reset`, and the frame buffer lists no cell. -/
theorem resetLeavesTheStatedValues : Obligations.ResetLeavesTheStatedValues := by
  intro c hc s
  obtain ⟨-, -, hword⟩ := busWordLayout
  refine ⟨fun b => ?_, rfl, rfl, hword, rfl, rfl, State.boot_refused hc, State.fbRead_of_nil rfl⟩
  rw [State.boot_btn, State.boot_score]
  exact ⟨rfl, rfl, rfl, rfl, rfl, rfl, rfl, rfl⟩

/-- RESET starts the trace anew from OUT's reset value. -/
theorem traceInv_applyReset (s : State) : TraceInv s.applyReset := ⟨rfl, rfl, rfl, rfl⟩

/-- RESET empties the frame buffer and drives every data line low. -/
theorem darkInv_applyReset (s : State) : DarkInv s.applyReset := ⟨rfl, rfl, rfl⟩

/-- Settles O37: `State.boot` is a RESET, and a RESET meets each invariant. -/
theorem resetMeetsTheInvariants : Obligations.ResetMeetsTheInvariants := fun _ _ =>
  ⟨mpInv_applyReset rfl, traceInv_applyReset _, clockBound_applyReset _, scoreBound_applyReset _, evOneGroup_zero,
    darkInv_applyReset _⟩

/-! ### What each classifier micro-op of the first tick leaves as it was (R223) -/

/-- No event is set, both scores are 0, no press has been measured, and a press that has begun began just now: its clock is 0. -/
structure NoEvent (s : State) : Prop where
  ev : s.ev = 0
  score : ∀ b, s.score.get b = 0
  unmeasured : ∀ b, (s.btn.get b).lastPressDur = 0
  within : PressedWithin 0 s.btn

section

variable {s t : State}

theorem NoEvent.congr (hs : NoEvent s) (hev : t.ev = s.ev) (hscore : t.score = s.score) (hbtn : t.btn = s.btn) : NoEvent t :=
  ⟨hev ▸ hs.ev, hscore ▸ hs.score, hbtn ▸ hs.unmeasured, hbtn ▸ hs.within⟩

/-- ADV moves the clocks of released buttons only. -/
theorem NoEvent.adv {dt : Dt} (hs : NoEvent s) (hreleased : ∀ b, (s.btn.get b).curLevel = false)
    (h : exec (.adv dt) s = .next t) : NoEvent t where
  ev := (exec_ev h nofun).trans hs.ev
  score := by rw [exec_score h nofun nofun nofun nofun nofun]; exact hs.score
  unmeasured b := (exec_lastPressDur_pending h b nofun nofun).1.trans (hs.unmeasured b)
  within b hpressed := by
    have hsame := (exec_sameSample h b nofun).curLevel
    exact absurd ((hreleased b).symm.trans (hsame.symm.trans hpressed)) Bool.false_ne_true

/-- A release measures a press whose clock is 0, and any other sample measures nothing. -/
theorem Channel.sampled_unmeasured {c : Channel} (hc : c.lastPressDur = 0) (hclk : c.curLevel = true → c.holdClk = 0)
    (now : Time) (level : Bool) : (c.sampled now level).lastPressDur = 0 := by
  rw [Channel.sampled_eq]
  cases hpressed : c.curLevel <;> cases level
  case true.false => exact hclk hpressed
  all_goals exact hc

theorem NoEvent.smp {c : Button} (hs : NoEvent s) (h : exec (.smp c) s = .next t) : NoEvent t where
  ev := (exec_ev h nofun).trans hs.ev
  score := by rw [exec_score h nofun nofun nofun nofun nofun]; exact hs.score
  unmeasured b := by
    by_cases hb : Instr.smp c = .smp b
    · cases hb
      rw [exec_smp_get h]
      exact Channel.sampled_unmeasured (hs.unmeasured c)
        (fun hc => BitVec.eq_of_toNat_eq (Nat.le_zero.mp (hs.within c hc))) ..
    · rw [exec_smp_other h rfl hb]
      exact hs.unmeasured b
  within := exec_smp_pressedWithin h hs.within

/-- EVAL takes level 3, since no clock has run, and finds no measured duration. -/
theorem NoEvent.eval (hs : NoEvent s) (h : exec .eval s = .next t) : NoEvent t := by
  have hdec : ¬∃ b, decrementDue s.cfg (s.btn.get b) = true := fun ⟨b, hb⟩ => by
    obtain ⟨hpressed, hheld, -⟩ := decrementDue_iff.mp hb
    exact absurd (hheld.trans_le (hs.within b hpressed)) (Nat.not_lt_zero _)
  have hinc : s.btn.map (incrementDue s.cfg) = noButton := PerButton.ext_get fun b => by
    rw [PerButton.get_map, noButton_get, Bool.eq_false_iff, ne_eq, incrementDue_iff, hs.unmeasured b]
    exact fun hdue => Nat.not_lt_zero _ hdue.1
  have hlevel : evalLevel s = .increment := evalLevel_of_noneDue (hs.within.mono (Nat.zero_le _)) hdec
  obtain rfl := Host.Outcome.next.inj ((exec_eval_of_increment hlevel).symm.trans h)
  exact {
    ev := by rw [State.setBtn_ev, State.setEv_ev, hinc]; rfl
    score := hs.score
    unmeasured := fun b => by rw [State.setBtn_btn, PerButton.get_map]; rfl
    within := fun b => by rw [State.setBtn_btn, PerButton.get_map]; exact hs.within b }

/-- GUARD leaves scores of 0 at 0, whichever way it decides. -/
theorem NoEvent.guard (hs : NoEvent s) (h : exec .guard s = .next t) : NoEvent t := by
  obtain rfl := Host.Outcome.next.inj ((execGuard_eq s).symm.trans h)
  refine ⟨hs.ev, fun b => ?_, hs.unmeasured, hs.within⟩
  rw [State.setScore_score]
  split_ifs
  · exact PerButton.get_same 0 b
  · exact hs.score b

/-- APPLY has no event to perform. -/
theorem NoEvent.apply (hs : NoEvent s) (h : exec .apply s = .next t) : NoEvent t where
  ev := (exec_ev h nofun).trans hs.ev
  score b := by
    obtain rfl := Host.Outcome.next.inj h
    rw [applyEvents_get, hs.ev, hs.score b]
    cases b <;> rfl
  unmeasured := by rw [exec_btn h nofun nofun nofun]; exact hs.unmeasured
  within := by rw [exec_btn h nofun nofun nofun]; exact hs.within

/-- MP's micro-ops before RWAIT keep it, ADV as long as no button is pressed (R101). -/
theorem exec_mpInstr_noEvent {dt : Dt} {pc : Nat} (h : exec (mpInstr dt pc) s = .next t) (hpc : pc < 6) (hs : NoEvent s)
    (hreleased : pc = 0 → ∀ b, (s.btn.get b).curLevel = false) : NoEvent t := by
  interval_cases pc
  · exact hs.adv (dt := dt) (hreleased rfl) h
  · exact hs.smp (c := .b0) h
  · exact hs.smp (c := .b1) h
  · exact hs.eval h
  · exact hs.guard h
  · exact hs.apply h

end

/-! ### The first tick up to RWAIT (R223) -/

/-- At the sequencer's turn before RWAIT the step performs MP's micro-op, which neither faults nor is refused, and goes on. -/
theorem step_before_rwait {s : State} {ts : List Turn} (hturns : s.turns = .sequencer :: ts) (hrun : stopped s = none)
    (hpc : s.seqPc.val < 6) :
    ∃ dt e v, exec (mpInstr dt s.seqPc.val) ((s.setTurns ts).setEnv e) = .next v ∧ stopped v = none ∧
      step s = .next (v.setSeqPc (nextPc s.seqPc)) := by
  obtain ⟨v, hv, hstep⟩ := seqStep_performs (s := s.setTurns ts) ((stopped_congr rfl rfl rfl).trans hrun)
  rw [← fetch_snd, fetch_state] at hv
  have hmoves : step s = seqStep (s.setTurns ts) := step_of_sequencerMoves (.inl ⟨ts, hturns, rfl⟩)
  rw [← hmoves] at hstep
  have hblank dt : ¬NeedsBlank (mpInstr dt s.seqPc.val) := fun h => by
    obtain ⟨k, j, -, -, hk⟩ := position_of_needsBlank h
    omega
  have hrun' : stopped v = none :=
    exec_keeps_running hv (mpInstr_wellFormed ..) (absurd · (hblank _)) ((stopped_congr rfl rfl rfl).trans hrun)
  rw [if_neg] at hstep
  · exact ⟨_, _, v, hv, hrun', hstep⟩
  · rintro (hfault | ⟨hi, -⟩)
    · exact stopped_ne_none_of_fault hfault hrun'
    · exact hpc.ne (mpInstr_eq_rwait.mp hi)

/-- The state `t` after the first `n` steps of the first tick from `s`. -/
structure FirstTick (s : State) (ts : List Turn) (n : Nat) (t : State) : Prop where
  run : runSteps n s = .next t
  running : stopped t = none
  position : t.seqPc.val = n
  turns : t.turns = List.replicate (6 - n) .sequencer ++ ts
  quiet : NoEvent t
  released : n = 0 → ∀ b, (t.btn.get b).curLevel = false

theorem boot_noEvent (c : Config) : NoEvent (State.boot c) where
  ev := rfl
  score := State.boot_score c
  unmeasured b := by rw [State.boot_btn]; rfl
  within b hpressed := by
    rw [State.boot_btn] at hpressed
    cases hpressed

theorem firstTick_zero {c : Config} (hc : configValid c = true) (e : Env) (qs : List HostReq) (ts : List Turn) :
    let s := { State.boot c with env := e, host := qs, turns := List.replicate 6 .sequencer ++ ts }
    FirstTick s ts 0 s where
  run := rfl
  running := (stopped_congr rfl rfl rfl).trans (boot_answering hc).running
  position := rfl
  turns := rfl
  quiet := (boot_noEvent c).congr rfl rfl rfl
  released _ b := congrArg Channel.curLevel (State.boot_btn c b)

theorem FirstTick.succ {s t : State} {ts : List Turn} {n : Nat} (h : FirstTick s ts n t) (hn : n < 6) :
    ∃ t', FirstTick s ts (n + 1) t' := by
  obtain ⟨hrun, hrunning, hpc, hturns, hquiet, hreleased⟩ := h
  rw [show 6 - n = 6 - (n + 1) + 1 by omega, List.replicate_succ, List.cons_append] at hturns
  obtain ⟨dt, e, v, hv, hv', hstep⟩ := step_before_rwait hturns hrunning (hpc.trans_lt hn)
  rw [hpc] at hv
  have hquiet' : NoEvent v := exec_mpInstr_noEvent hv hn (hquiet.congr rfl rfl rfl) hreleased
  exact ⟨_, {
    run := runSteps_succ hrun hstep
    running := (stopped_congr rfl rfl rfl).trans hv'
    position := by rw [State.setSeqPc_seqPc, nextPc_val, hpc, if_neg (by omega)]
    turns := (exec_untouched hv).turns
    quiet := hquiet'.congr rfl rfl rfl
    released := nofun }⟩

theorem FirstTick.upTo_rwait {s : State} {ts : List Turn} (h0 : FirstTick s ts 0 s) : ∃ t, FirstTick s ts 6 t := by
  suffices hall : ∀ n ≤ 6, ∃ t, FirstTick s ts n t from hall 6 le_rfl
  intro n hn
  induction n with
  | zero => exact ⟨s, h0⟩
  | succ n ih =>
    obtain ⟨t, h⟩ := ih (by omega)
    exact h.succ (by omega)

/-- Settles O54: six steps from reset, each of them one of MP's micro-ops before RWAIT. -/
theorem firstTickGivesNoEvent : Obligations.FirstTickGivesNoEvent := by
  intro c e qs ts hc
  obtain ⟨t, h⟩ := (firstTick_zero hc e qs ts).upTo_rwait
  exact ⟨t, h.run, Fin.ext h.position, h.quiet.ev, h.quiet.score .b0, h.quiet.score .b1⟩

end Sys2Proof.Machine
end
